-- ==== Sys2Proof/Word.lean ====
section
/-! DEFINITION. The word types of the core: octets and 16-bit values, all unsigned (00_scope.md R7). -/

namespace Sys2Proof

/-- An 8-bit unit of the wire stream, and an 8-bit register value (00_scope.md section 6, R7). -/
abbrev Octet := BitVec 8

/-- A 16-bit register value or command word (00_scope.md R7, 30_encoding.md R72). -/
abbrev Word16 := BitVec 16

end Sys2Proof
end

