-- ==== Sys2Proof/Machine/Codec.lean ====
section
/-! DEFINITION. The frame codec: the two checksum generators HCRC and DCRC and the frame encoder FENC
(40_frame_codec.md R81 to R95, 30_encoding.md R61 to R65). -/

namespace Sys2Proof.Machine

/-- `HUpdate(b, acc)` in its closed form (40_frame_codec.md R82). PRESUMED (log entry 12): the spec takes the function
from general knowledge and checks it against the residue 0x55. -/
def hUpdate (b acc : Octet) : Octet :=
  let a : Word16 := (acc ^^^ b).setWidth 16
  let c := a ^^^ (a <<< 1) ^^^ (a <<< 2) ^^^ (a <<< 3) ^^^ (a <<< 4) ^^^ (a <<< 5) ^^^ (a <<< 6) ^^^ (a <<< 7)
  (c.setWidth 8 &&& 0xFE#8) ^^^ ((c >>> 8) &&& 1#16).setWidth 8

/-- One round of the serial form of HCRC (40_frame_codec.md R83). -/
def hRound (a : Octet) : Octet :=
  if a.getLsbD 0 then (a >>> 1) ^^^ 0x81#8 else a >>> 1

/-- `n` rounds. -/
def hRounds : Nat → Octet → Octet
  | 0, a => a
  | n + 1, a => hRounds n (hRound a)

/-- The eight-round shift-register form of `HUpdate` (40_frame_codec.md R83). -/
def hUpdateSerial (b acc : Octet) : Octet := hRounds 8 (acc ^^^ b)

/-- `DUpdate(b, acc)` in its closed form (40_frame_codec.md R86). PRESUMED (log entry 12), as `hUpdate`. -/
def dUpdate (b : Octet) (acc : Word16) : Word16 :=
  let lo : Word16 := (acc.setWidth 8 ^^^ b).setWidth 16
  (acc >>> 8) ^^^ (lo <<< 8) ^^^ (lo <<< 3) ^^^ (lo <<< 12) ^^^ (lo >>> 4) ^^^ (lo &&& 0x0F#16) ^^^
    ((lo &&& 0x0F#16) <<< 7)

/-- One round of the serial form of DCRC (40_frame_codec.md R87). -/
def dRound (a : Word16) : Word16 :=
  if a.getLsbD 0 then (a >>> 1) ^^^ 0x8408#16 else a >>> 1

/-- `n` rounds. -/
def dRounds : Nat → Word16 → Word16
  | 0, a => a
  | n + 1, a => dRounds n (dRound a)

/-- The eight-round shift-register form of `DUpdate` (40_frame_codec.md R87). -/
def dUpdateSerial (b : Octet) (acc : Word16) : Word16 := dRounds 8 (acc ^^^ b.setWidth 16)

/-- The accumulator after a list of header octets: `HUpdate` folded in the order of arrival (40_frame_codec.md R84). -/
def hFold : Octet → List Octet → Octet
  | acc, [] => acc
  | acc, b :: bs => hFold (hUpdate b acc) bs

/-- `fold(DUpdate, acc, data)` (40_frame_codec.md R88). -/
def dFold : Word16 → List Octet → Word16
  | acc, [] => acc
  | acc, b :: bs => dFold (dUpdate b acc) bs

/-- The header accumulator's initial value (40_frame_codec.md R81). -/
def hInit : Octet := 0xFF

/-- The data accumulator's initial value (40_frame_codec.md R86). -/
def dInit : Word16 := 0xFFFF

/-- The header residue of a good frame (40_frame_codec.md R84). -/
def hGood : Octet := 0x55

/-- The data residue of a good frame (40_frame_codec.md R88). -/
def dGood : Word16 := 0xF0B8

/-- `HeaderGood` (40_frame_codec.md R84). -/
def headerGood (t d s lh ll hc : Octet) : Bool := hFold hInit [t, d, s, lh, ll, hc] == hGood

/-- `DataGood` (40_frame_codec.md R88). -/
def dataGood (data : List Octet) (cl ch : Octet) : Bool := dFold dInit (data ++ [cl, ch]) == dGood

/-- The transmitted header-CRC octet, the ones' complement of the accumulator (40_frame_codec.md R85). -/
def headerCrcOctet (t d s lh ll : Octet) : Octet := ~~~(hFold hInit [t, d, s, lh, ll])

/-- The transmitted data CRC, the ones' complement of the accumulator (40_frame_codec.md R89). -/
def dataCrc (data : List Octet) : Word16 := ~~~(dFold dInit data)

/-- Bits 7 to 0 of a 16-bit value. -/
def lowOctet (v : Word16) : Octet := v.extractLsb' 0 8

/-- Bits 15 to 8 of a 16-bit value. -/
def highOctet (v : Word16) : Octet := v.extractLsb' 8 8

/-- The first preamble octet (30_encoding.md R61). -/
def preambleOne : Octet := 0x55

/-- The second preamble octet (30_encoding.md R61). -/
def preambleTwo : Octet := 0xFF

/-- `data` followed by its data CRC, low octet first; nothing at all for an empty payload ("data_crc: present iff data
non-empty", 30_encoding.md R61; 40_frame_codec.md R89, R91). -/
def encodeData (data : List Octet) : List Octet :=
  match data with
  | [] => []
  | _ :: _ => data ++ [lowOctet (dataCrc data), highOctet (dataCrc data)]

/-- `Encode(t, d, s, data)`: the octets of a frame on the wire (40_frame_codec.md R91). Of more than 501 octets, which R91's
operands exclude, it keeps the form with the length cut to sixteen bits (DESIGN CHOICE, log entry 18). -/
def encodeFrame (t d s : Octet) (data : List Octet) : List Octet :=
  let len := BitVec.ofNat 16 data.length
  [preambleOne, preambleTwo, t, d, s, highOctet len, lowOctet len,
    headerCrcOctet t d s (highOctet len) (lowOctet len)] ++ encodeData data

end Sys2Proof.Machine
end

