-- ==== Sys2Proof/Config.lean ====
section
/-! DEFINITION. The configuration record CFG of 00_scope.md R5. Its legality (R6) and its defaults stand in
Sys2Proof/Machine/Defaults.lean. -/

namespace Sys2Proof

/-- `CFG`: the implementation parameters of 00_scope.md R5. They are sampled at reset release and no command
writes them (10_state.md R13, R16). The last five are read by no rule (43_timers.md R194). -/
structure Config where
  /-- `TS`, this station. -/
  ts : Octet
  /-- `N_MAX_INFO_FRAMES`. -/
  nMaxInfoFrames : Octet
  /-- `N_MAX_MASTER`. -/
  nMaxMaster : Octet
  /-- `N_POLL`. -/
  nPoll : Octet
  /-- `N_RETRY_TOKEN`. -/
  nRetryToken : Octet
  /-- `N_MIN_OCTETS`. -/
  nMinOctets : Octet
  /-- `T_FRAME_ABORT` in milliseconds. -/
  tFrameAbort : Word16
  /-- `T_NO_TOKEN` in milliseconds. -/
  tNoToken : Word16
  /-- `T_REPLY_DELAY` in milliseconds. -/
  tReplyDelay : Word16
  /-- `T_REPLY_TIMEOUT` in milliseconds. -/
  tReplyTimeout : Word16
  /-- `T_SLOT` in milliseconds. -/
  tSlot : Word16
  /-- `T_USAGE_TIMEOUT` in milliseconds. -/
  tUsageTimeout : Word16
  /-- `T_USAGE_DELAY` in milliseconds; no rule reads it. -/
  tUsageDelay : Word16
  /-- `T_FRAME_GAP` in bit times; physical layer only. -/
  tFrameGap : Nat
  /-- `T_POSTDRIVE` in bit times; physical layer only. -/
  tPostdrive : Nat
  /-- `T_ROFF` in bit times; physical layer only. -/
  tRoff : Nat
  /-- `T_TURNAROUND`; physical layer only. DESIGN CHOICE (log entry 13): counted in hundredths of a millisecond. -/
  tTurnaround : Nat
  deriving DecidableEq, Repr

end Sys2Proof
end

