-- ==== Sys2Proof/Syntax.lean ====
section
/-! DEFINITION. The instructions of the core, one constructor for each row of spec/opcode_table.json, and the
inputs they are read from: command words with their side-band descriptor (30_encoding.md R72 to R76). -/

namespace Sys2Proof

/-- The side-band frame descriptor presented with TX_QUEUE and REPLY (30_encoding.md R74). A descriptor proper has
exactly `dLen` octets of data; WellFormed says so. -/
structure Descriptor where
  dType : Octet
  dDest : Octet
  dLen : Word16
  dData : List Octet
  deriving DecidableEq, Repr

/-- One item of the host's stream: a 16-bit command word, and what stands on the side-band input beside it
(30_encoding.md R72, R74). Only TX_QUEUE and REPLY read the descriptor. -/
structure Command where
  word : Word16
  desc : Descriptor
  deriving DecidableEq, Repr

/-- The instructions. The first ten are the command words of 30_encoding.md R73 and R75; the other thirteen are the
frame types of R66 to R68, as the token machine takes them from the frame result latch (DESIGN CHOICE, log entry 6). -/
inductive Instr where
  /-- RX_NONE (41_receive_fsm.md R96). -/
  | rxNone
  /-- RX_BYTE v (41_receive_fsm.md R97). -/
  | rxByte (v : Octet)
  /-- RX_ERROR (41_receive_fsm.md R98). -/
  | rxError
  /-- TICK (43_timers.md R187). -/
  | tick
  /-- MASTER_STEP (42_token_fsm.md R126). -/
  | masterStep
  /-- TX_QUEUE with its descriptor (44_host_ops.md R198). -/
  | txQueue (d : Descriptor)
  /-- REPLY with its descriptor (44_host_ops.md R200). -/
  | reply (d : Descriptor)
  /-- A word with op 0x7, reserved; `low` is its bits 11 to 0 (44_host_ops.md R202). -/
  | reservedOp7 (low : BitVec 12)
  /-- A word with op 0x8 to 0xF, reserved; `low` is its bits 14 to 0 (44_host_ops.md R202). -/
  | reservedOp8F (low : BitVec 15)
  /-- A malformed word (30_encoding.md R75, 44_host_ops.md R202). -/
  | malformed (w : Word16)
  /-- Frame type 0, Token. -/
  | ftToken
  /-- Frame type 1, Poll-For-Master. -/
  | ftPfm
  /-- Frame type 2, Reply-To-Poll-For-Master. -/
  | ftRpfm
  /-- Frame type 3, Test-Request. -/
  | ftTreq
  /-- Frame type 4, Test-Response. -/
  | ftTrsp
  /-- Frame type 5, BACnet-Data-Expecting-Reply. -/
  | ftDer
  /-- Frame type 6, BACnet-Data-Not-Expecting-Reply. -/
  | ftDner
  /-- Frame type 7, Reply-Postponed. -/
  | ftRp
  /-- Reserved frame types 0x08 to 0x0F; `k` is bits 2 to 0 (30_encoding.md R67). -/
  | ftReserved08 (k : BitVec 3)
  /-- Reserved frame types 0x10 to 0x1F; `k` is bits 3 to 0 (30_encoding.md R67). -/
  | ftReserved10 (k : BitVec 4)
  /-- Reserved frame types 0x20 to 0x3F; `k` is bits 4 to 0 (30_encoding.md R67). -/
  | ftReserved20 (k : BitVec 5)
  /-- Reserved frame types 0x40 to 0x7F; `k` is bits 5 to 0 (30_encoding.md R67). -/
  | ftReserved40 (k : BitVec 6)
  /-- Proprietary frame types 0x80 to 0xFF; `k` is bits 6 to 0 (30_encoding.md R68). -/
  | ftProprietary (k : BitVec 7)
  deriving DecidableEq, Repr

end Sys2Proof
end

