-- ==== Sys2Proof/WellFormed.lean ====
section
/-! DEFINITION. Which instruction terms are well formed: a descriptor has exactly d_len octets (30_encoding.md R74),
and a malformed word is one (R75). Every other operand form is bounded by its type. -/

namespace Sys2Proof

/-- "`d_data`, a sequence of exactly `d_len` octets" (30_encoding.md R74). -/
def Descriptor.wf (d : Descriptor) : Bool :=
  d.dData.length == d.dLen.toNat

/-- What is wrong with an instruction term. -/
inductive IllFormed where
  /-- The descriptor's data is not exactly d_len octets (30_encoding.md R74). -/
  | descriptorLength
  /-- The word given as malformed has op above 6: it is a reserved word (30_encoding.md R75). -/
  | malformedOpReserved
  /-- The word given as malformed is one of the seven commands (30_encoding.md R73, R75). -/
  | malformedIsCommand
  deriving DecidableEq, Repr

/-- The first thing wrong with an instruction term, if any. -/
def Instr.problem : Instr → Option IllFormed
  | .txQueue d => if d.wf then none else some .descriptorLength
  | .reply d => if d.wf then none else some .descriptorLength
  | .malformed w =>
    if 6 < w.toNat / 4096 then some .malformedOpReserved
    else if (w.toNat / 256) % 16 = 0 ∧ (w.toNat / 4096 = 1 ∨ w.toNat % 256 = 0) then some .malformedIsCommand
    else none
  | .rxNone | .rxByte _ | .rxError | .tick | .masterStep | .reservedOp7 _ | .reservedOp8F _ => none
  | .ftToken | .ftPfm | .ftRpfm | .ftTreq | .ftTrsp | .ftDer | .ftDner | .ftRp => none
  | .ftReserved08 _ | .ftReserved10 _ | .ftReserved20 _ | .ftReserved40 _ | .ftProprietary _ => none

/-- An instruction term is well formed when nothing is wrong with it. -/
def Instr.wf (i : Instr) : Bool :=
  i.problem == none

end Sys2Proof
end

