-- ==== Sys2Proof/Decode.lean ====
section
/-! DEFINITION. Decoding (30_encoding.md R72 to R76, R80; 44_host_ops.md R197) and the encoder, written from the same
tables; and the opcode table's rows as masks and patterns. -/

namespace Sys2Proof

/-- What the decoder reads: a command of the host's stream, or the type octet of a frame (30_encoding.md R66). -/
inductive Code where
  | command (c : Command)
  | frameType (t : Octet)
  deriving DecidableEq, Repr

/-- Why the decoder rejects. Every command WORD decodes (30_encoding.md R80); only a descriptor can be no descriptor. -/
inductive DecodeError where
  /-- TX_QUEUE or REPLY beside data that is not exactly d_len octets (30_encoding.md R74). -/
  | descriptorLength
  deriving DecidableEq, Repr

/-- Bits 15 to 12 of a command word (30_encoding.md R72). -/
def opField (w : Word16) : BitVec 4 := w.extractLsb' 12 4

/-- Bits 11 to 8 of a command word, reserved (30_encoding.md R72). -/
def rsvField (w : Word16) : BitVec 4 := w.extractLsb' 8 4

/-- Bits 7 to 0 of a command word (30_encoding.md R72, R76). -/
def immField (w : Word16) : Octet := w.extractLsb' 0 8

/-- "A word with `rsv != 0` is malformed", and "a word with `op != 0x1` and `imm8 != 0`" (30_encoding.md R75). -/
def isMalformedWord (w : Word16) : Bool :=
  rsvField w != 0 || (opField w != 1 && immField w != 0)

/-- The command a word with op 0x0 to 0x6 and legal reserved fields stands for (30_encoding.md R73). -/
def commandOfOp (op : BitVec 4) (w : Word16) (d : Descriptor) : Instr :=
  match op.toNat with
  | 0 => .rxNone
  | 1 => .rxByte (immField w)
  | 2 => .rxError
  | 3 => .tick
  | 4 => .masterStep
  | 5 => .txQueue d
  | 6 => .reply d
  | 7 => .reservedOp7 (w.extractLsb' 0 12)
  | _ => .reservedOp8F (w.extractLsb' 0 15)

/-- Decoding of a command word, total (30_encoding.md R80, 44_host_ops.md R197). -/
def decodeWord (w : Word16) (d : Descriptor) : Instr :=
  if opField w ≤ 6 && isMalformedWord w then .malformed w else commandOfOp (opField w) w d

/-- Decoding of a frame-type octet, total (30_encoding.md R66 to R68). -/
def decodeFrameType (t : Octet) : Instr :=
  if 0x80#8 ≤ t then .ftProprietary (t.extractLsb' 0 7)
  else if 0x40#8 ≤ t then .ftReserved40 (t.extractLsb' 0 6)
  else if 0x20#8 ≤ t then .ftReserved20 (t.extractLsb' 0 5)
  else if 0x10#8 ≤ t then .ftReserved10 (t.extractLsb' 0 4)
  else if 0x08#8 ≤ t then .ftReserved08 (t.extractLsb' 0 3)
  else match t.toNat with
    | 0 => .ftToken
    | 1 => .ftPfm
    | 2 => .ftRpfm
    | 3 => .ftTreq
    | 4 => .ftTrsp
    | 5 => .ftDer
    | 6 => .ftDner
    | _ => .ftRp

/-- The decoder. It rejects, by name, only a descriptor that is none. -/
def decode : Code → Except DecodeError Instr
  | .command c =>
    let i := decodeWord c.word c.desc
    match i.problem with
    | none => .ok i
    | some _ => .error .descriptorLength
  | .frameType t => .ok (decodeFrameType t)

/-- The side-band input with every field zero: what stands beside a command that reads none. -/
def Descriptor.absent : Descriptor := { dType := 0, dDest := 0, dLen := 0, dData := [] }

/-- A command word with nothing on the side band. -/
def Command.plain (w : Word16) : Command := { word := w, desc := .absent }

/-- The encoder (30_encoding.md R66 to R68, R72 to R75). -/
def encode : Instr → Code
  | .rxNone => .command (.plain 0x0000)
  | .rxByte v => .command (.plain (0x10#8 ++ v))
  | .rxError => .command (.plain 0x2000)
  | .tick => .command (.plain 0x3000)
  | .masterStep => .command (.plain 0x4000)
  | .txQueue d => .command { word := 0x5000, desc := d }
  | .reply d => .command { word := 0x6000, desc := d }
  | .reservedOp7 low => .command (.plain (0x7#4 ++ low))
  | .reservedOp8F low => .command (.plain (1#1 ++ low))
  | .malformed w => .command (.plain w)
  | .ftToken => .frameType 0
  | .ftPfm => .frameType 1
  | .ftRpfm => .frameType 2
  | .ftTreq => .frameType 3
  | .ftTrsp => .frameType 4
  | .ftDer => .frameType 5
  | .ftDner => .frameType 6
  | .ftRp => .frameType 7
  | .ftReserved08 k => .frameType (1#5 ++ k)
  | .ftReserved10 k => .frameType (1#4 ++ k)
  | .ftReserved20 k => .frameType (1#3 ++ k)
  | .ftReserved40 k => .frameType (1#2 ++ k)
  | .ftProprietary k => .frameType (1#1 ++ k)

/-- The encoded form as one number, numbered as spec/opcode_table.json numbers bits: the command word, or the octet. -/
def Code.bits : Code → Nat
  | .command c => c.word.toNat
  | .frameType t => t.toNat

/-- The instruction the decoder reads from a row's bits: eight bits are a frame-type octet, sixteen a command word
with an all-zero side band. -/
def decodeTableWord (nbits w : Nat) : Option Instr :=
  if nbits = 8 ∧ w < 256 then (decode (.frameType (BitVec.ofNat 8 w))).toOption
  else if nbits = 16 ∧ w < 65536 then (decode (.command (.plain (BitVec.ofNat 16 w)))).toOption
  else none

/-- One row of spec/opcode_table.json: which form it is of, its mask and its pattern. -/
structure TableRow where
  frameOctet : Bool
  mask : Nat
  pattern : Nat
  deriving DecidableEq, Repr

/-- Does a word of the row's form carry the row's pattern under its mask? -/
def TableRow.fits (r : TableRow) (w : Nat) : Bool :=
  w &&& r.mask == r.pattern

/-- The row of spec/opcode_table.json an instruction belongs to. -/
def Instr.row : Instr → TableRow
  | .rxNone => ⟨false, 0xFFFF, 0x0000⟩
  | .rxByte _ => ⟨false, 0xFF00, 0x1000⟩
  | .rxError => ⟨false, 0xFFFF, 0x2000⟩
  | .tick => ⟨false, 0xFFFF, 0x3000⟩
  | .masterStep => ⟨false, 0xFFFF, 0x4000⟩
  | .txQueue _ => ⟨false, 0xFFFF, 0x5000⟩
  | .reply _ => ⟨false, 0xFFFF, 0x6000⟩
  | .reservedOp7 _ => ⟨false, 0xF000, 0x7000⟩
  | .reservedOp8F _ => ⟨false, 0x8000, 0x8000⟩
  | .malformed _ => ⟨false, 0x0000, 0x0000⟩
  | .ftToken => ⟨true, 0xFF, 0x00⟩
  | .ftPfm => ⟨true, 0xFF, 0x01⟩
  | .ftRpfm => ⟨true, 0xFF, 0x02⟩
  | .ftTreq => ⟨true, 0xFF, 0x03⟩
  | .ftTrsp => ⟨true, 0xFF, 0x04⟩
  | .ftDer => ⟨true, 0xFF, 0x05⟩
  | .ftDner => ⟨true, 0xFF, 0x06⟩
  | .ftRp => ⟨true, 0xFF, 0x07⟩
  | .ftReserved08 _ => ⟨true, 0xF8, 0x08⟩
  | .ftReserved10 _ => ⟨true, 0xF0, 0x10⟩
  | .ftReserved20 _ => ⟨true, 0xE0, 0x20⟩
  | .ftReserved40 _ => ⟨true, 0xC0, 0x40⟩
  | .ftProprietary _ => ⟨true, 0x80, 0x80⟩

end Sys2Proof
end

