-- ==== Sys2Proof/Machine/Defaults.lean ====
section
/-! DEFINITION. The default configuration (00_scope.md R5) and which configurations are legal (R6). -/

namespace Sys2Proof.Machine

/-- The defaults of 00_scope.md R5. R5 gives `TS` none ("per node"): DESIGN CHOICE (log entry 1), it is 5, the station
of the spec's own vectors. `T_TURNAROUND` "~4.17 ms equivalent" is 417 hundredths (log entry 13). -/
def defaultConfig : Config where
  ts := 5
  nMaxInfoFrames := 1
  nMaxMaster := 127
  nPoll := 50
  nRetryToken := 1
  nMinOctets := 4
  tFrameAbort := 6
  tNoToken := 500
  tReplyDelay := 225
  tReplyTimeout := 255
  tSlot := 10
  tUsageTimeout := 20
  tUsageDelay := 15
  tFrameGap := 20
  tPostdrive := 15
  tRoff := 30
  tTurnaround := 417

/-- The silence at which a node's NoToken slot arrives, `T_NO_TOKEN + T_SLOT * TS`, computed exactly
(00_scope.md R12, 42_token_fsm.md R163). -/
def slotThreshold (c : Config) : Nat :=
  c.tNoToken.toNat + c.tSlot.toNat * c.ts.toNat

/-- A legal configuration: the ranges of 00_scope.md R5 that their widths do not already give, and R6 (a) to (d). -/
def configLegal (c : Config) : Bool :=
  decide (1 ≤ c.nMaxInfoFrames) && decide (c.nMinOctets ≤ 254) && decide (c.ts ≤ c.nMaxMaster) &&
    decide (c.nMaxMaster ≤ 254) && decide (slotThreshold c ≤ 0xFFFF) && decide (c.tFrameAbort ≤ 0xFFFE)

end Sys2Proof.Machine
end

