-- ==== Sys2Proof/Machine/State.lean ====
section
/-! DEFINITION. The state of the core: every register of 10_state.md R17, the sampled configuration, and the model's
own two streams (the host's inputs still to come, and the events emitted so far). -/

namespace Sys2Proof.Machine

/-- The four held receive sub-states (10_state.md R24). HeaderCrc and DataCrc are phases, never held (R36). -/
inductive RxState where
  | idle
  | preamble
  | header
  | data
  deriving DecidableEq, Repr

/-- The token machine's states (10_state.md R30). `unused k` is the value 9 + k of the four-bit register, which no rule
writes (42_token_fsm.md R178). -/
inductive TkState where
  /-- Initialize, value 0. -/
  | initial
  | idle
  | useToken
  | waitForReply
  | doneWithToken
  | passToken
  | noToken
  | pollForMaster
  | answerDataRequest
  | unused (k : Fin 7)
  deriving DecidableEq, Repr

/-- An output event (42_token_fsm.md R127, R128, R130). -/
inductive Event where
  /-- A frame transmitted, with its octets on the wire. -/
  | send (type dest src : Octet) (data octets : List Octet)
  /-- A frame delivered to the upper layer. -/
  | indicate (type dest src : Octet) (data : List Octet)
  deriving DecidableEq, Repr

/-- One item of what the outside presents to the core: a command, or a pulse on RESET with the configuration standing
there when it is released (70_reset_and_hazards.md R236, R239). -/
inductive Input where
  | command (c : Command)
  | reset (cfg : Config)
  deriving DecidableEq, Repr

/-- A buffer's octets: (index, octet) pairs, indexes strictly rising, none listed that holds what an unlisted index
reads as (0x00, its reset value: 10_state.md R17). -/
abbrev Memory := List Host.Cell

/-- The state. The register fields are those of the table of 10_state.md R17, in its order. -/
structure State where
  /-- `CFG` as sampled at the last reset release (10_state.md R16). -/
  cfg : Config
  rxState : RxState
  rxIndex : BitVec 10
  rxHcrc : Octet
  rxDcrc : Word16
  rxType : Octet
  rxDest : Octet
  rxSrc : Octet
  rxLen : Word16
  rxBuf : Memory
  frType : Octet
  frDest : Octet
  frSrc : Octet
  frLen : Word16
  rvf : Bool
  rif : Bool
  tkState : TkState
  ns : Octet
  ps : Octet
  soleMaster : Bool
  tokenCount : Octet
  frameCount : Octet
  retryCount : Octet
  eventCount : Octet
  reqSrc : Octet
  reqType : Octet
  waitType : Octet
  silence : Word16
  replyTimer : Word16
  txqValid : Bool
  txqType : Octet
  txqDest : Octet
  txqLen : Word16
  txqData : Memory
  rplValid : Bool
  rplType : Octet
  rplLen : Word16
  rplData : Memory
  /-- `STATUS`: bit 0 RX_OVERRUN, bit 1 CMD_IGNORED (10_state.md R34). -/
  status : BitVec 2
  /-- The model's own: what the outside will still present, the next item first (92_eei_decisions.md D37). -/
  inputs : List Input
  /-- The model's own: every event emitted so far, the oldest first (20_memory.md R57). -/
  events : List Event
  deriving DecidableEq, Repr

/-- Why the machine stops with a fault. -/
inductive Fault where
  /-- A buffer index outside 0..500, which the spec says never occurs (20_memory.md R48). Raised by the RX_BYTE that would
  write there and by a Send or Indicate of more than 501 octets, in no state a run reaches. Safe: the machine stops. -/
  | bufferIndex
  deriving DecidableEq, Repr

/-- Why a step is refused. -/
inductive Refusal where
  /-- An instruction with no meaning yet. Raised by no arm of this model. Safe. -/
  | notModelled (mnemonic : String)
  /-- A configuration that breaks 00_scope.md R6. Raised by the step, on a RESET released with one and on a command
  in a state that holds one (70_reset_and_hazards.md R240: "refused"). Safe. -/
  | illegalConfig
  /-- A descriptor whose data is not exactly d_len octets, which is no descriptor (30_encoding.md R74). Raised by the
  step on a TX_QUEUE or REPLY word beside one. Safe. -/
  | descriptorLength
  deriving DecidableEq, Repr

/-- Every register at its reset value, with the configuration sampled at the release (10_state.md R17,
70_reset_and_hazards.md R236, R237). Nothing to come and nothing emitted. -/
def State.resetWith (cfg : Config) : State where
  cfg := cfg
  rxState := .idle
  rxIndex := 0
  rxHcrc := 0xFF
  rxDcrc := 0xFFFF
  rxType := 0
  rxDest := 0
  rxSrc := 0
  rxLen := 0
  rxBuf := []
  frType := 0
  frDest := 0
  frSrc := 0
  frLen := 0
  rvf := false
  rif := false
  tkState := .initial
  ns := 0
  ps := 0
  soleMaster := false
  tokenCount := 0
  frameCount := 0
  retryCount := 0
  eventCount := 0
  reqSrc := 0
  reqType := 0
  waitType := 0
  silence := 0
  replyTimer := 0
  txqValid := false
  txqType := 0
  txqDest := 0
  txqLen := 0
  txqData := []
  rplValid := false
  rplType := 0
  rplLen := 0
  rplData := []
  status := 0
  inputs := []
  events := []

/-- The machine right after reset, with the default configuration (log entry 1). -/
def State.reset : State := State.resetWith defaultConfig

end Sys2Proof.Machine
end

