-- ==== Sys2Proof/Machine/Ops.lean ====
section
/-! DEFINITION. The operations the meanings share: saturating counters, the address step, the three buffers, Send,
Indicate and reset. The core raises no exception and takes no trap, and has no return from one (60_exceptions.md R218,
R222, R223): there is no exception operation to write; reset is its only system-level entry (R226). -/

namespace Sys2Proof.Machine

/-- `N_MAX_DATA`, the maximum payload (00_scope.md R5, 20_memory.md R47). -/
def nMaxData : Nat := 501

/-- The broadcast station address (20_memory.md R50). -/
def broadcast : Octet := 255

/-- `sat_inc_8` (00_scope.md R8, R11). -/
def satInc8 (r : Octet) : Octet := if r = 0xFF#8 then r else r + 1

/-- `sat_inc_10`, the increment of `rx_index` (00_scope.md R8, R11; 10_state.md R19). -/
def satInc10 (r : BitVec 10) : BitVec 10 := if r = 0x3FF#10 then r else r + 1

/-- `sat_inc_16` (00_scope.md R8, R11). -/
def satInc16 (r : Word16) : Word16 := if r = 0xFFFF#16 then r else r + 1

/-- `next(x) = (x + 1) mod (N_MAX_MASTER + 1)` (42_token_fsm.md R129). -/
def nextStation (c : Config) (x : Octet) : Octet :=
  BitVec.ofNat 8 ((x.toNat + 1) % (c.nMaxMaster.toNat + 1))

/-- What an unlisted buffer position reads as: 0x00, every buffer octet's reset value (10_state.md R17). -/
def unlistedOctet : Octet := 0

/-- The octet at index `i` of a buffer. -/
def Memory.read : Memory → Nat → Octet
  | [], _ => unlistedOctet
  | (a, b) :: m, i => if a = i then b else Memory.read m i

/-- Puts an entry before a rest, unless it holds what an unlisted position reads as. -/
def Memory.listed (i : Nat) (v : Octet) (m : Memory) : Memory :=
  if v = unlistedOctet then m else (i, v) :: m

/-- Writes the octet at index `i` of a buffer, keeping the canonical form. -/
def Memory.write : Memory → Nat → Octet → Memory
  | [], i, v => Memory.listed i v []
  | (a, b) :: m, i, v =>
    if i < a then Memory.listed i v ((a, b) :: m)
    else if i = a then Memory.listed i v m
    else (a, b) :: Memory.write m i v

/-- Writes consecutive octets from index `i` on (44_host_ops.md R198, R200). -/
def Memory.writeAll : Memory → Nat → List Octet → Memory
  | m, _, [] => m
  | m, i, v :: vs => Memory.writeAll (Memory.write m i v) (i + 1) vs

/-- The octets at indexes 0 to `n - 1`. -/
def Memory.octets (m : Memory) (n : Nat) : List Octet := (List.range n).map m.read

/-- The canonical form from index `lo` on: indexes strictly rising and below 501, and none listed that holds what an
unlisted one reads as. -/
def Memory.wfFrom : Nat → Memory → Bool
  | _, [] => true
  | lo, (a, b) :: m => decide (lo ≤ a) && decide (a < nMaxData) && b != unlistedOctet && Memory.wfFrom (a + 1) m

/-- The canonical form of a buffer of 501 octets (20_memory.md R47). -/
def Memory.wf (m : Memory) : Bool := Memory.wfFrom 0 m

/-- Goes on with the octets 0 to `len - 1` of a buffer. A length above 501 reaches past index 500: the fault of
20_memory.md R48, in no state a run reaches. -/
def withOctets (m : Memory) (len : Word16) (k : List Octet → Host.Outcome State Fault Refusal) :
    Host.Outcome State Fault Refusal :=
  if len.toNat ≤ nMaxData then k (m.octets len.toNat) else .fault .bufferIndex

/-- `Send(type, dest, data)`: emits the frame, with source `TS` and its octets, and clears `silence`. It touches neither
`event_count`, nor the receiver, nor the frame detectors (42_token_fsm.md R128). -/
def send (t d : Octet) (data : List Octet) (s : State) : State :=
  { s with
    events := s.events ++ [.send t d s.cfg.ts data (encodeFrame t d s.cfg.ts data)]
    silence := 0 }

/-- `Indicate`: delivers the frame in the result latch, `t` being its type octet, with the payload as `rx_buf` holds it
now (42_token_fsm.md R130, 70_reset_and_hazards.md R244). -/
def indicate (t : Octet) (s : State) : Host.Outcome State Fault Refusal :=
  withOctets s.rxBuf s.frLen fun data =>
    .next { s with events := s.events ++ [.indicate t s.frDest s.frSrc data] }

/-- A pulse on RESET with `cfg` standing at its release: every register takes its reset value, from every state, and no
event is emitted; an illegal configuration is refused (70_reset_and_hazards.md R236, R240). The host's stream and the
events already emitted are no registers and stay (log entry 4). -/
def applyReset (cfg : Config) (s : State) : Host.Outcome State Fault Refusal :=
  if configLegal cfg then .next { State.resetWith cfg with inputs := s.inputs, events := s.events }
  else .refused .illegalConfig

/-- Goes on where an outcome is a next state. -/
def andThen (o : Host.Outcome State Fault Refusal) (k : State → Host.Outcome State Fault Refusal) :
    Host.Outcome State Fault Refusal :=
  match o with
  | .next s => k s
  | .fault r => .fault r
  | .refused r => .refused r

end Sys2Proof.Machine
end

