-- ==== Sys2Proof/Machine/Operands.lean ====
section
/-! DEFINITION. Operand forms and the tests on them: frame-type classes (30_encoding.md R66 to R71), the acceptance of
descriptors (44_host_ops.md R199, R201), the register encodings and the host's view (10_state.md R24, R30, R38). -/

namespace Sys2Proof.Machine

/-- `expects_reply(t)`: Test-Request or BACnet-Data-Expecting-Reply (30_encoding.md R69). -/
def expectsReply (t : Octet) : Bool := t == 3 || t == 5

/-- `expected(t)`: the type that answers a request of type `t` (30_encoding.md R70). The spec gives it for 3 and 5 only;
`wait_type` holds nothing else in WaitForReply (42_token_fsm.md R176 (f)), and no frame matches there (log entry 9). -/
def expectedReply (t : Octet) : Option Octet :=
  if t = 3 then some 4 else if t = 5 then some 6 else none

/-- A proprietary frame type, 128 to 255 (30_encoding.md R68). -/
def isProprietary (t : Octet) : Bool := decide (128#8 ≤ t)

/-- The types Idle hands to the upper layer as not expecting a reply: 4, 6 and 128..255 (42_token_fsm.md R138, R140). -/
def isDelivered (t : Octet) : Bool := t == 4 || t == 6 || isProprietary t

/-- The types TX_QUEUE may queue (30_encoding.md R71, 44_host_ops.md R199 (b)). -/
def isQueueable (t : Octet) : Bool := t == 3 || t == 5 || t == 6 || isProprietary t

/-- The types REPLY may supply (30_encoding.md R71, 44_host_ops.md R201 (d)). -/
def isReplyType (t : Octet) : Bool := t == 6 || isProprietary t

/-- `TxAcceptable(t, d, n)` (44_host_ops.md R199). -/
def txAcceptable (s : State) (t d : Octet) (n : Word16) : Bool :=
  !s.txqValid && isQueueable t && decide (n.toNat ≤ nMaxData) && !(expectsReply t && d == broadcast)

/-- `RplAcceptable(t, n)` (44_host_ops.md R201). -/
def rplAcceptable (s : State) (t : Octet) (n : Word16) : Bool :=
  s.tkState == .answerDataRequest && s.reqType == 5 && !s.rplValid && isReplyType t && decide (n.toNat ≤ nMaxData)

/-- The two-bit encoding of `rx_state` (10_state.md R24). -/
def RxState.code : RxState → BitVec 2
  | .idle => 0
  | .preamble => 1
  | .header => 2
  | .data => 3

/-- The receive state a two-bit value encodes: "All four 2-bit values are used" (10_state.md R24). -/
def RxState.ofCode (v : BitVec 2) : RxState :=
  match v.toNat with
  | 0 => .idle
  | 1 => .preamble
  | 2 => .header
  | _ => .data

/-- The four-bit encoding of `tk_state` (10_state.md R30). -/
def TkState.code : TkState → BitVec 4
  | .initial => 0
  | .idle => 1
  | .useToken => 2
  | .waitForReply => 3
  | .doneWithToken => 4
  | .passToken => 5
  | .noToken => 6
  | .pollForMaster => 7
  | .answerDataRequest => 8
  | .unused k => BitVec.ofNat 4 (9 + k.val)

/-- The token machine's state a four-bit value encodes (10_state.md R30). -/
def TkState.ofCode (v : BitVec 4) : TkState :=
  match v.toNat with
  | 0 => .initial
  | 1 => .idle
  | 2 => .useToken
  | 3 => .waitForReply
  | 4 => .doneWithToken
  | 5 => .passToken
  | 6 => .noToken
  | 7 => .pollForMaster
  | 8 => .answerDataRequest
  | n => .unused (Fin.ofNat 7 (n - 9))

/-- A state one of the nine names stands for (42_token_fsm.md R176 (a)). -/
def TkState.named : TkState → Bool
  | .unused _ => false
  | .initial | .idle | .useToken | .waitForReply | .doneWithToken | .passToken | .noToken | .pollForMaster
  | .answerDataRequest => true

/-- What the host may read between two commands, without side effect (10_state.md R38, 44_host_ops.md R204). -/
structure HostView where
  tkState : BitVec 4
  status : BitVec 2
  txqValid : Bool
  rplValid : Bool
  rvf : Bool
  rif : Bool
  frType : Octet
  frDest : Octet
  frSrc : Octet
  frLen : Word16
  deriving DecidableEq, Repr

/-- The host's view of a state. -/
def State.hostView (s : State) : HostView where
  tkState := s.tkState.code
  status := s.status
  txqValid := s.txqValid
  rplValid := s.rplValid
  rvf := s.rvf
  rif := s.rif
  frType := s.frType
  frDest := s.frDest
  frSrc := s.frSrc
  frLen := s.frLen

end Sys2Proof.Machine
end

