-- ==== Sys2Proof/Machine/Flags.lean ====
section
/-! DEFINITION. The flags: the frame detectors RVF and RIF (41_receive_fsm.md R115) and the sticky STATUS bits
(10_state.md R34). -/

namespace Sys2Proof.Machine

/-- A frame result: what a frame detector reports (41_receive_fsm.md R115). -/
inductive FrameResult where
  | valid
  | invalid
  deriving DecidableEq, Repr

/-- `STATUS` bit 0, `RX_OVERRUN` (10_state.md R34). -/
def State.rxOverrun (s : State) : Bool := s.status.getLsbD 0

/-- `STATUS` bit 1, `CMD_IGNORED` (10_state.md R34). -/
def State.cmdIgnored (s : State) : Bool := s.status.getLsbD 1

/-- `STATUS.RX_OVERRUN <- 1` when a result is posted over one not yet consumed (41_receive_fsm.md R115). -/
def statusAfterPost (s : State) : BitVec 2 :=
  if s.rvf || s.rif then s.status ||| 1#2 else s.status

/-- `post(Valid)`: raises `RVF` and copies the header fields into the result latch (41_receive_fsm.md R115). -/
def postValid (s : State) : State :=
  { s with
    status := statusAfterPost s
    rvf := true
    rif := false
    frType := s.rxType
    frDest := s.rxDest
    frSrc := s.rxSrc
    frLen := s.rxLen }

/-- `post(Invalid)`: raises `RIF`; the latch is unchanged (41_receive_fsm.md R115). -/
def postInvalid (s : State) : State :=
  { s with
    status := statusAfterPost s
    rif := true
    rvf := false }

/-- `ignore()`: `STATUS.CMD_IGNORED <- 1` and nothing else (44_host_ops.md R202, R203). -/
def ignoreCommand (s : State) : State := { s with status := s.status ||| 2#2 }

end Sys2Proof.Machine
end

