-- ==== Sys2Proof/Machine/Token.lean ====
section
/-! DEFINITION. The token-circulation state machine TKFSM and MASTER_STEP (42_token_fsm.md R126 to R180). Each state's
branches stand in the order of its rules, the first that holds being taken (00_scope.md R10). -/

namespace Sys2Proof.Machine

/-- Initialize (42_token_fsm.md R131). -/
def initializeStep (s : State) : State :=
  { s with
    ns := s.cfg.ts
    ps := s.cfg.ts
    tokenCount := s.cfg.nPoll
    soleMaster := false
    rvf := false
    rif := false
    tkState := .idle }

/-- `silence >= T_NO_TOKEN`: Idle presumes the token lost (42_token_fsm.md R132). -/
def tokenLost (s : State) : Bool := decide (s.cfg.tNoToken ≤ s.silence)

/-- `silence >= T_REPLY_TIMEOUT` (42_token_fsm.md R145). -/
def replyTimedOut (s : State) : Bool := decide (s.cfg.tReplyTimeout ≤ s.silence)

/-- `silence >= T_USAGE_TIMEOUT` (42_token_fsm.md R158 to R160, R167 to R170). -/
def usageTimedOut (s : State) : Bool := decide (s.cfg.tUsageTimeout ≤ s.silence)

/-- `event_count > N_MIN_OCTETS` (42_token_fsm.md R158, R162). -/
def activitySeen (s : State) : Bool := decide (s.cfg.nMinOctets < s.eventCount)

/-- `silence >= T_NO_TOKEN + T_SLOT * TS` (42_token_fsm.md R163, 00_scope.md R12). -/
def slotArrived (s : State) : Bool := decide (slotThreshold s.cfg ≤ s.silence.toNat)

/-- `reply_timer >= T_REPLY_DELAY` (42_token_fsm.md R172 to R174). -/
def replyDelayOver (s : State) : Bool := decide (s.cfg.tReplyDelay ≤ s.replyTimer)

/-- Idle, a valid frame of type `t` addressed to this station (42_token_fsm.md R135 to R139). -/
def idleDirected (t : Octet) (s : State) : Host.Outcome State Fault Refusal :=
  if t = 0 then .next { s with frameCount := 0, soleMaster := false, tkState := .useToken }
  else if t = 1 then .next (send 2 s.frSrc [] s)
  else if t = 3 then
    .next { s with replyTimer := 0, reqSrc := s.frSrc, reqType := t, tkState := .answerDataRequest }
  else if t = 5 then
    indicate t { s with replyTimer := 0, reqSrc := s.frSrc, reqType := t, tkState := .answerDataRequest }
  else if isDelivered t then indicate t s
  else .next s

/-- Idle, a valid broadcast frame of type `t` (42_token_fsm.md R140). -/
def idleBroadcast (t : Octet) (s : State) : Host.Outcome State Fault Refusal :=
  if isDelivered t then indicate t s else .next s

/-- Idle takes a valid frame of type `t`: `RVF <- 0`, then the dispatch on its destination (42_token_fsm.md R134). A
destination that is neither never reaches TKFSM; it is discarded (log entry 11). -/
def idleFrame (t : Octet) (s : State) : Host.Outcome State Fault Refusal :=
  if s.frDest = s.cfg.ts then idleDirected t { s with rvf := false }
  else if s.frDest = broadcast then idleBroadcast t { s with rvf := false }
  else .next { s with rvf := false }

/-- WaitForReply takes a valid frame of type `t` (42_token_fsm.md R147 to R149). -/
def waitFrame (t : Octet) (s : State) : Host.Outcome State Fault Refusal :=
  if s.frDest = s.cfg.ts ∧ expectedReply s.waitType = some t then
    indicate t { s with rvf := false, tkState := .doneWithToken }
  else if s.frDest = s.cfg.ts ∧ t = 7 then .next { s with rvf := false, tkState := .doneWithToken }
  else .next { s with rvf := false, tkState := .idle }

/-- PollForMaster takes a valid frame of type `t` (42_token_fsm.md R165, R166). -/
def pollFrame (t : Octet) (s : State) : Host.Outcome State Fault Refusal :=
  if s.frDest = s.cfg.ts ∧ t = 2 then
    .next (send 0 s.frSrc []
      { s with
        rvf := false
        ns := s.frSrc
        ps := s.cfg.ts
        tokenCount := 0
        retryCount := 0
        eventCount := 0
        soleMaster := false
        tkState := .passToken })
  else .next { s with rvf := false, tkState := .idle }

/-- Idle (42_token_fsm.md R132, R133, R134, R141). -/
def idleStep (s : State) : Host.Outcome State Fault Refusal :=
  if tokenLost s then .next { s with eventCount := 0, tkState := .noToken }
  else if s.rif then .next { s with rif := false }
  else if s.rvf then idleFrame s.frType s
  else .next s

/-- UseToken (42_token_fsm.md R142, R143, R144). -/
def useTokenStep (s : State) : Host.Outcome State Fault Refusal :=
  if !s.txqValid then .next { s with frameCount := s.cfg.nMaxInfoFrames, tkState := .doneWithToken }
  else
    withOctets s.txqData s.txqLen fun data =>
      if expectsReply s.txqType then
        .next { send s.txqType s.txqDest data s with
          txqValid := false
          frameCount := s.frameCount + 1
          waitType := s.txqType
          tkState := .waitForReply }
      else
        .next { send s.txqType s.txqDest data s with
          txqValid := false
          frameCount := s.frameCount + 1
          tkState := .doneWithToken }

/-- WaitForReply (42_token_fsm.md R145 to R150). -/
def waitStep (s : State) : Host.Outcome State Fault Refusal :=
  if replyTimedOut s then .next { s with frameCount := s.cfg.nMaxInfoFrames, tkState := .doneWithToken }
  else if s.rif then .next { s with rif := false, tkState := .doneWithToken }
  else if s.rvf then waitFrame s.frType s
  else .next s

/-- DoneWithToken (42_token_fsm.md R151 to R157). -/
def doneStep (s : State) : State :=
  if s.frameCount < s.cfg.nMaxInfoFrames then { s with tkState := .useToken }
  else if s.tokenCount < s.cfg.nPoll ∧ s.soleMaster = true then
    { s with tokenCount := satInc8 s.tokenCount, frameCount := 0, tkState := .useToken }
  else if (s.tokenCount < s.cfg.nPoll ∧ s.soleMaster = false) ∨ s.ns = nextStation s.cfg s.cfg.ts then
    send 0 s.ns []
      { s with tokenCount := satInc8 s.tokenCount, retryCount := 0, eventCount := 0, tkState := .passToken }
  else if s.cfg.nPoll ≤ s.tokenCount ∧ nextStation s.cfg s.ps ≠ s.ns then
    send 1 (nextStation s.cfg s.ps) []
      { s with ps := nextStation s.cfg s.ps, retryCount := 0, tkState := .pollForMaster }
  else if s.soleMaster = false then
    send 0 s.ns []
      { s with ps := s.cfg.ts, retryCount := 0, tokenCount := 0, eventCount := 0, tkState := .passToken }
  else
    send 1 (nextStation s.cfg s.ns) []
      { s with
        ps := nextStation s.cfg s.ns
        ns := s.cfg.ts
        retryCount := 0
        tokenCount := 0
        eventCount := 0
        tkState := .pollForMaster }

/-- PassToken (42_token_fsm.md R158 to R161). -/
def passStep (s : State) : State :=
  if !usageTimedOut s && activitySeen s then { s with tkState := .idle }
  else if usageTimedOut s then
    if s.retryCount < s.cfg.nRetryToken then
      send 0 s.ns [] { s with retryCount := s.retryCount + 1, eventCount := 0 }
    else
      send 1 (nextStation s.cfg s.ns) []
        { s with
          ps := nextStation s.cfg s.ns
          ns := s.cfg.ts
          retryCount := 0
          tokenCount := 0
          eventCount := 0
          tkState := .pollForMaster }
  else s

/-- NoToken (42_token_fsm.md R162 to R164). -/
def noTokenStep (s : State) : State :=
  if activitySeen s then { s with tkState := .idle }
  else if slotArrived s then
    send 1 (nextStation s.cfg s.cfg.ts) []
      { s with
        ps := nextStation s.cfg s.cfg.ts
        ns := s.cfg.ts
        tokenCount := 0
        retryCount := 0
        eventCount := 0
        tkState := .pollForMaster }
  else s

/-- PollForMaster's `timeout`: the usage timeout has elapsed, or an invalid frame arrived (42_token_fsm.md section 9). -/
def pollTimedOut (s : State) : Bool := usageTimedOut s || s.rif

/-- PollForMaster when no valid frame is posted (42_token_fsm.md R167 to R171). -/
def pollUnanswered (s : State) : State :=
  if !pollTimedOut s then s
  else if s.soleMaster then { s with rif := false, frameCount := 0, tkState := .useToken }
  else if s.ns ≠ s.cfg.ts then
    send 0 s.ns [] { s with rif := false, retryCount := 0, eventCount := 0, tkState := .passToken }
  else if nextStation s.cfg s.ps ≠ s.cfg.ts then
    send 1 (nextStation s.cfg s.ps) [] { s with rif := false, ps := nextStation s.cfg s.ps, retryCount := 0 }
  else { s with rif := false, soleMaster := true, frameCount := 0, tkState := .useToken }

/-- PollForMaster (42_token_fsm.md R165 to R171). -/
def pollStep (s : State) : Host.Outcome State Fault Refusal :=
  if s.rvf then pollFrame s.frType s else .next (pollUnanswered s)

/-- AnswerDataRequest (42_token_fsm.md R172 to R175). -/
def answerStep (s : State) : Host.Outcome State Fault Refusal :=
  if s.reqType = 3 ∧ replyDelayOver s = false then
    withOctets s.rxBuf s.frLen fun data => .next { send 4 s.reqSrc data s with tkState := .idle }
  else if s.reqType = 5 ∧ s.rplValid = true ∧ replyDelayOver s = false then
    withOctets s.rplData s.rplLen fun data =>
      .next { send s.rplType s.reqSrc data s with rplValid := false, tkState := .idle }
  else if replyDelayOver s then .next { send 7 s.reqSrc [] s with rplValid := false, tkState := .idle }
  else .next s

/-- MASTER_STEP: one transition of the current state (42_token_fsm.md R126; R178 for the unused values). -/
def execMasterStep (s : State) : Host.Outcome State Fault Refusal :=
  match s.tkState with
  | .initial => .next (initializeStep s)
  | .idle => idleStep s
  | .useToken => useTokenStep s
  | .waitForReply => waitStep s
  | .doneWithToken => .next (doneStep s)
  | .passToken => .next (passStep s)
  | .noToken => .next (noTokenStep s)
  | .pollForMaster => pollStep s
  | .answerDataRequest => answerStep s
  | .unused _ => .next s

end Sys2Proof.Machine
end

