-- ==== Sys2Proof/Machine/Frames.lean ====
section
/-! DEFINITION. The frame-type rows of the opcode table (30_encoding.md R66 to R68): what the token machine does when
it takes a posted valid frame of that type (log entry 6). -/

namespace Sys2Proof.Machine

/-- A MASTER_STEP in this state takes the posted valid frame: `RVF` is 1, the state is one that consumes it
(42_token_fsm.md R177), and no earlier branch of the state holds (R132, R133; R145, R146; R165, R166). -/
def takesFrame (s : State) : Bool :=
  s.rvf && match s.tkState with
    | .idle => !tokenLost s && !s.rif
    | .waitForReply => !replyTimedOut s && !s.rif
    | .pollForMaster => true
    | .initial | .useToken | .doneWithToken | .passToken | .noToken | .answerDataRequest | .unused _ => false

/-- What TKFSM does with a valid frame of type `t` taken in its current state (42_token_fsm.md R134, R147, R165). -/
def frameAction (t : Octet) (s : State) : Host.Outcome State Fault Refusal :=
  match s.tkState with
  | .idle => idleFrame t s
  | .waitForReply => waitFrame t s
  | .pollForMaster => pollFrame t s
  | .initial | .useToken | .doneWithToken | .passToken | .noToken | .answerDataRequest | .unused _ => .next s

/-- A frame of type `t` in the result latch: taken where a MASTER_STEP takes it, and otherwise it "stays pending until a
consuming state is reached" (42_token_fsm.md R177). -/
def takeFrame (t : Octet) (s : State) : Host.Outcome State Fault Refusal :=
  if takesFrame s then frameAction t s else .next s

/-- A Token frame (30_encoding.md R66: "Idle R135; otherwise per R177"). -/
def execFtToken (s : State) : Host.Outcome State Fault Refusal := takeFrame 0 s

/-- A Poll-For-Master frame (30_encoding.md R66: Idle R136). -/
def execFtPfm (s : State) : Host.Outcome State Fault Refusal := takeFrame 1 s

/-- A Reply-To-Poll-For-Master frame (30_encoding.md R66: PollForMaster R165). -/
def execFtRpfm (s : State) : Host.Outcome State Fault Refusal := takeFrame 2 s

/-- A Test-Request frame (30_encoding.md R66: Idle R137; then AnswerDataRequest R172). -/
def execFtTreq (s : State) : Host.Outcome State Fault Refusal := takeFrame 3 s

/-- A Test-Response frame (30_encoding.md R66: Idle R138, R140; WaitForReply R147). -/
def execFtTrsp (s : State) : Host.Outcome State Fault Refusal := takeFrame 4 s

/-- A BACnet-Data-Expecting-Reply frame (30_encoding.md R66: Idle R137; then AnswerDataRequest R173). -/
def execFtDer (s : State) : Host.Outcome State Fault Refusal := takeFrame 5 s

/-- A BACnet-Data-Not-Expecting-Reply frame (30_encoding.md R66: Idle R138, R140; WaitForReply R147). -/
def execFtDner (s : State) : Host.Outcome State Fault Refusal := takeFrame 6 s

/-- A Reply-Postponed frame (30_encoding.md R66: WaitForReply R148). -/
def execFtRp (s : State) : Host.Outcome State Fault Refusal := takeFrame 7 s

/-- A reserved frame of types 0x08 to 0x0F: discarded (30_encoding.md R67). -/
def execFtReserved08 (k : BitVec 3) (s : State) : Host.Outcome State Fault Refusal := takeFrame (1#5 ++ k) s

/-- A reserved frame of types 0x10 to 0x1F: discarded (30_encoding.md R67). -/
def execFtReserved10 (k : BitVec 4) (s : State) : Host.Outcome State Fault Refusal := takeFrame (1#4 ++ k) s

/-- A reserved frame of types 0x20 to 0x3F: discarded (30_encoding.md R67). -/
def execFtReserved20 (k : BitVec 5) (s : State) : Host.Outcome State Fault Refusal := takeFrame (1#3 ++ k) s

/-- A reserved frame of types 0x40 to 0x7F: discarded (30_encoding.md R67). -/
def execFtReserved40 (k : BitVec 6) (s : State) : Host.Outcome State Fault Refusal := takeFrame (1#2 ++ k) s

/-- A proprietary frame: delivered in Idle, its vendor code not read (30_encoding.md R68). -/
def execFtProprietary (k : BitVec 7) (s : State) : Host.Outcome State Fault Refusal := takeFrame (1#1 ++ k) s

end Sys2Proof.Machine
end

