-- ==== Sys2Proof/Machine/HostOps.lean ====
section
/-! DEFINITION. The host interface HIF: TX_QUEUE, REPLY and the ignored words (44_host_ops.md R196 to R205). -/

namespace Sys2Proof.Machine

/-- TX_QUEUE: fills the transmit slot where the descriptor is acceptable, else is ignored (44_host_ops.md R198). -/
def execTxQueue (d : Descriptor) (s : State) : Host.Outcome State Fault Refusal :=
  if txAcceptable s d.dType d.dDest d.dLen then
    .next { s with
      txqType := d.dType
      txqDest := d.dDest
      txqLen := d.dLen
      txqData := s.txqData.writeAll 0 d.dData
      txqValid := true }
  else .next (ignoreCommand s)

/-- REPLY: fills the reply slot where the descriptor is acceptable, else is ignored; `d_dest` is not read
(44_host_ops.md R200). -/
def execReply (d : Descriptor) (s : State) : Host.Outcome State Fault Refusal :=
  if rplAcceptable s d.dType d.dLen then
    .next { s with
      rplType := d.dType
      rplLen := d.dLen
      rplData := s.rplData.writeAll 0 d.dData
      rplValid := true }
  else .next (ignoreCommand s)

/-- A reserved word with op 7 executes `ignore()` (44_host_ops.md R202). -/
def execReservedOp7 (s : State) : Host.Outcome State Fault Refusal := .next (ignoreCommand s)

/-- A reserved word with op 8 to 15 executes `ignore()` (44_host_ops.md R202). -/
def execReservedOp8F (s : State) : Host.Outcome State Fault Refusal := .next (ignoreCommand s)

/-- A malformed word executes `ignore()` (44_host_ops.md R202). -/
def execMalformed (s : State) : Host.Outcome State Fault Refusal := .next (ignoreCommand s)

end Sys2Proof.Machine
end

