-- ==== Sys2Proof/Machine/Receive.lean ====
section
/-! DEFINITION. The receive state machine RXFSM and its three commands (41_receive_fsm.md R96 to R118). -/

namespace Sys2Proof.Machine

/-- `rx_state` in {Preamble, Header, Data} and `silence > T_FRAME_ABORT`: the frame-abort comparator
(41_receive_fsm.md R100, 43_timers.md R192). -/
def frameAborts (s : State) : Bool :=
  s.rxState != .idle && decide (s.cfg.tFrameAbort < s.silence)

/-- `TimeoutPhase`: back to Idle, with Invalid posted from Header and Data (41_receive_fsm.md R100). -/
def timeoutPhase (s : State) : State :=
  if frameAborts s then
    match s.rxState with
    | .idle => s
    | .preamble => { s with rxState := .idle }
    | .header | .data => { postInvalid s with rxState := .idle }
  else s

/-- `ActivityPhase`: every octet and every error clears `silence` and counts (41_receive_fsm.md R99). -/
def activityPhase (s : State) : State :=
  { s with silence := 0, eventCount := satInc8 s.eventCount }

/-- Idle, octet `v` (41_receive_fsm.md R101, R102). -/
def idleByte (v : Octet) (s : State) : State :=
  if v = preambleOne then { s with rxState := .preamble } else s

/-- Preamble, octet `v` (41_receive_fsm.md R103, R104, R105). -/
def preambleByte (v : Octet) (s : State) : State :=
  if v = preambleTwo then { s with rxHcrc := hInit, rxIndex := 0, rxState := .header }
  else if v = preambleOne then s
  else { s with rxState := .idle }

/-- Header, octet `v`: the store into the field that `rx_index` selects (41_receive_fsm.md R107). The sixth octet, and an
index no run reaches (log entry 10), store nothing. -/
def storeHeader (v : Octet) (s : State) : State :=
  match s.rxIndex.toNat with
  | 0 => { s with rxType := v }
  | 1 => { s with rxDest := v }
  | 2 => { s with rxSrc := v }
  | 3 => { s with rxLen := v ++ lowOctet s.rxLen }
  | 4 => { s with rxLen := highOctet s.rxLen ++ v }
  | _ => s

/-- HeaderCrc: evaluated in the command that consumed the sixth header octet (41_receive_fsm.md R110 (a) to (e)). -/
def headerCrcPhase (s : State) : State :=
  if s.rxHcrc ≠ hGood then { postInvalid s with rxState := .idle }
  else if s.rxDest ≠ s.cfg.ts ∧ s.rxDest ≠ broadcast then { s with rxState := .idle }
  else if nMaxData < s.rxLen.toNat then { postInvalid s with rxState := .idle }
  else if s.rxLen = 0 then { postValid s with rxState := .idle }
  else { s with rxDcrc := dInit, rxIndex := 0, rxState := .data }

/-- Header, octet `v` (41_receive_fsm.md R107, R109). `rx_index` saturates at its ten bits (00_scope.md R11). -/
def headerByte (v : Octet) (s : State) : State :=
  let s1 := storeHeader v { s with rxHcrc := hUpdate v s.rxHcrc }
  let s2 := { s1 with rxIndex := satInc10 s1.rxIndex }
  if s2.rxIndex = 6 then headerCrcPhase s2 else s2

/-- DataCrc: evaluated in the command that consumed the second data-CRC octet (41_receive_fsm.md R113). -/
def dataCrcPhase (s : State) : State :=
  { (if s.rxDcrc = dGood then postValid s else postInvalid s) with rxState := .idle }

/-- Data, octet `v`, once stored: folded, counted, and checked on the last (41_receive_fsm.md R111). `rx_index` saturates
at its ten bits (00_scope.md R11). -/
def dataCount (v : Octet) (s : State) : State :=
  let s1 := { s with rxDcrc := dUpdate v s.rxDcrc, rxIndex := satInc10 s.rxIndex }
  if s1.rxIndex.toNat = s1.rxLen.toNat + 2 then dataCrcPhase s1 else s1

/-- Data, octet `v`: a payload octet goes to `rx_buf`, a data-CRC octet is folded only (41_receive_fsm.md R111). A write
past index 500 never occurs (20_memory.md R48); it would fault. -/
def dataByte (v : Octet) (s : State) : Host.Outcome State Fault Refusal :=
  if s.rxIndex.toNat < s.rxLen.toNat then
    if s.rxIndex.toNat < nMaxData then
      .next (dataCount v { s with rxBuf := s.rxBuf.write s.rxIndex.toNat v })
    else .fault .bufferIndex
  else .next (dataCount v s)

/-- An octet, in the state the timeout and activity phases leave (41_receive_fsm.md R97). -/
def receiveByte (v : Octet) (s : State) : Host.Outcome State Fault Refusal :=
  match s.rxState with
  | .idle => .next (idleByte v s)
  | .preamble => .next (preambleByte v s)
  | .header => .next (headerByte v s)
  | .data => dataByte v s

/-- A receive error, in the state the timeout and activity phases leave (41_receive_fsm.md R98, R106, R108, R112). -/
def receiveError (s : State) : State :=
  match s.rxState with
  | .idle => s
  | .preamble => { s with rxState := .idle }
  | .header | .data => { postInvalid s with rxState := .idle }

/-- RX_NONE: the timeout phase only (41_receive_fsm.md R96). -/
def execRxNone (s : State) : Host.Outcome State Fault Refusal :=
  .next (timeoutPhase s)

/-- RX_BYTE v: timeout, activity, then the octet in the resulting state (41_receive_fsm.md R97). -/
def execRxByte (v : Octet) (s : State) : Host.Outcome State Fault Refusal :=
  receiveByte v (activityPhase (timeoutPhase s))

/-- RX_ERROR: timeout, activity, then the error in the resulting state (41_receive_fsm.md R98). -/
def execRxError (s : State) : Host.Outcome State Fault Refusal :=
  .next (receiveError (activityPhase (timeoutPhase s)))

end Sys2Proof.Machine
end

