-- ==== Sys2Proof/Machine/Timers.lean ====
section
/-! DEFINITION. The timers TMR and TICK (43_timers.md R186 to R195). -/

namespace Sys2Proof.Machine

/-- TICK: both timers advance by one millisecond, saturating (43_timers.md R187). -/
def execTick (s : State) : Host.Outcome State Fault Refusal :=
  .next { s with silence := satInc16 s.silence, replyTimer := satInc16 s.replyTimer }

end Sys2Proof.Machine
end

