-- ==== Sys2Proof/Machine/Dispatch.lean ====
section
/-! DEFINITION. One arm per instruction. -/

namespace Sys2Proof.Machine

def exec (i : Instr) (s : State) : Host.Outcome State Fault Refusal :=
  match i with
  | .rxNone => Sys2Proof.Machine.execRxNone s
  | .rxByte v => Sys2Proof.Machine.execRxByte v s
  | .rxError => Sys2Proof.Machine.execRxError s
  | .tick => Sys2Proof.Machine.execTick s
  | .masterStep => Sys2Proof.Machine.execMasterStep s
  | .txQueue d => Sys2Proof.Machine.execTxQueue d s
  | .reply d => Sys2Proof.Machine.execReply d s
  | .reservedOp7 _ => Sys2Proof.Machine.execReservedOp7 s
  | .reservedOp8F _ => Sys2Proof.Machine.execReservedOp8F s
  | .malformed _ => Sys2Proof.Machine.execMalformed s
  | .ftToken => Sys2Proof.Machine.execFtToken s
  | .ftPfm => Sys2Proof.Machine.execFtPfm s
  | .ftRpfm => Sys2Proof.Machine.execFtRpfm s
  | .ftTreq => Sys2Proof.Machine.execFtTreq s
  | .ftTrsp => Sys2Proof.Machine.execFtTrsp s
  | .ftDer => Sys2Proof.Machine.execFtDer s
  | .ftDner => Sys2Proof.Machine.execFtDner s
  | .ftRp => Sys2Proof.Machine.execFtRp s
  | .ftReserved08 k => Sys2Proof.Machine.execFtReserved08 k s
  | .ftReserved10 k => Sys2Proof.Machine.execFtReserved10 k s
  | .ftReserved20 k => Sys2Proof.Machine.execFtReserved20 k s
  | .ftReserved40 k => Sys2Proof.Machine.execFtReserved40 k s
  | .ftProprietary k => Sys2Proof.Machine.execFtProprietary k s

end Sys2Proof.Machine
end

