-- ==== Sys2Proof/Machine/Fetch.lean ====
section
/-! DEFINITION. Which code a step decodes, and how a word is laid where the next step takes it. -/

namespace Sys2Proof.Machine

/-- The code a step decodes for the command `c`: the type octet of the posted frame where `c` is a MASTER_STEP that
takes that frame, and the command itself otherwise (log entry 6). -/
def fetchCode (c : Command) (s : State) : Code :=
  if c.word = 0x4000#16 ∧ takesFrame s = true then .frameType s.frType else .command c

/-- One command, its input already taken off the list: fetched, decoded and executed. An illegal configuration gives the
core no meaning (70_reset_and_hazards.md R240), and a descriptor that is none is no input (30_encoding.md R74). -/
def runCommand (c : Command) (s : State) : Host.Outcome State Fault Refusal :=
  if configLegal s.cfg then
    match decode (fetchCode c s) with
    | .ok i => exec i s
    | .error .descriptorLength => .refused .descriptorLength
  else .refused .illegalConfig

/-- One item of the host's stream. -/
def runInput (x : Input) (s : State) : Host.Outcome State Fault Refusal :=
  match x with
  | .command c => runCommand c s
  | .reset cfg => applyReset cfg s

/-- The state with a word laid where the next step takes its instruction. Sixteen bits: the command word with an all-zero
side band, next in the host's stream. Eight bits: that type octet in the result latch of a valid frame for this station,
the receiver having nothing invalid pending, TKFSM in Idle with the line not silent (or in PollForMaster, where the
configuration never lets Idle take a frame: `T_NO_TOKEN = 0`), and a MASTER_STEP next. -/
def layWord (s : State) (nbits w : Nat) : State :=
  if nbits ≤ 8 then
    { s with
      rvf := true
      rif := false
      frType := BitVec.ofNat 8 w
      frDest := s.cfg.ts
      silence := 0
      tkState := if s.cfg.tNoToken = 0 then .pollForMaster else .idle
      inputs := .command (.plain 0x4000) :: s.inputs }
  else { s with inputs := .command (.plain (BitVec.ofNat 16 w)) :: s.inputs }

end Sys2Proof.Machine
end

