-- ==== Sys2Proof/Machine/Step.lean ====
section
/-! DEFINITION. The step: the next item of the host's stream, applied (00_scope.md R9). -/

namespace Sys2Proof.Machine

/-- One step. With nothing presented the core "does nothing and holds all its state" (60_exceptions.md R232). -/
def step (s : State) : Host.Outcome State Fault Refusal :=
  match s.inputs with
  | [] => .next s
  | x :: rest => runInput x { s with inputs := rest }

/-- The state whose very next step runs the given word (log entry 5 says how a program comes to run). -/
def State.withFetchWord (s : State) (nbits w : Nat) : State := layWord s nbits w

end Sys2Proof.Machine
end

