-- ==== Sys2Proof/Machine/Assembler.lean ====
section
/-! DEFINITION. The assembler syntax of command streams and its pseudo-instructions (30_encoding.md R77 to R79). -/

namespace Sys2Proof.Machine

/-- One line of a program: the seven mnemonics of 30_encoding.md R77 and the pseudo-instructions of R78. -/
inductive Line where
  | rxn
  | rxb (v : Octet)
  | rxe
  | tick (n : Nat)
  | mstep (n : Nat)
  | txq (t d : Octet) (data : List Octet)
  | rply (t : Octet) (data : List Octet)
  | rxs (octets : List Octet)
  | rxf (t d s : Octet) (data : List Octet)
  | run (n : Nat)
  deriving DecidableEq, Repr

/-- The command word of `RXB v` (30_encoding.md R77). -/
def rxbCommand (v : Octet) : Command := .plain (0x10#8 ++ v)

/-- The descriptor of a line: `d_len` counts the data (30_encoding.md R77), cut to its sixteen bits (DESIGN CHOICE, log
entry 18). -/
def lineDescriptor (t d : Octet) (data : List Octet) : Descriptor :=
  { dType := t, dDest := d, dLen := BitVec.ofNat 16 data.length, dData := data }

/-- The commands a line stands for (30_encoding.md R77, R78). An RXF line of more than 501 data octets, which R91's operands
exclude, assembles all the same (DESIGN CHOICE, log entry 18). -/
def Line.expand : Line → List Command
  | .rxn => [.plain 0x0000]
  | .rxb v => [rxbCommand v]
  | .rxe => [.plain 0x2000]
  | .tick n => List.replicate n (.plain 0x3000)
  | .mstep n => List.replicate n (.plain 0x4000)
  | .txq t d data => [{ word := 0x5000, desc := lineDescriptor t d data }]
  | .rply t data => [{ word := 0x6000, desc := lineDescriptor t 0 data }]
  | .rxs octets => octets.map rxbCommand
  | .rxf t d s data => (encodeFrame t d s data).map rxbCommand
  | .run n => (List.replicate n [Command.plain 0x4000, Command.plain 0x3000]).flatten

/-- The commands of a program, a finite list of lines applied in order (30_encoding.md R79). -/
def assemble (p : List Line) : List Command := (p.map Line.expand).flatten

/-- A start state with a program standing in its host stream (30_encoding.md R79). -/
def State.withProgram (s : State) (p : List Line) : State :=
  { s with inputs := (assemble p).map Input.command ++ s.inputs }

/-! The text of a line. Commas and spaces separate; `;` starts a comment; a number is decimal, or hexadecimal with `0x`
(30_encoding.md R77); an octet of a sequence is two hexadecimal digits, or a hexadecimal number with `0x` (00_scope.md
R7). DESIGN CHOICE (log entry 14): a sequence's octets are hexadecimal, as the spec's own programs write them. -/

/-- A lexical token: a word, or a bracket around an octet sequence. -/
inductive Token where
  | word (cs : List Char)
  | openSeq
  | closeSeq
  deriving DecidableEq, Repr

/-- Closes the word being read, if any. -/
def flushWord (acc : List Char) (rest : List Token) : List Token :=
  match acc with
  | [] => rest
  | _ :: _ => .word acc.reverse :: rest

/-- The tokens of a line of text; `acc` is the word being read, its characters latest first. -/
def tokensOf : List Char → List Char → List Token
  | acc, [] => flushWord acc []
  | acc, c :: cs =>
    if c = ';' then flushWord acc []
    else if c = ' ' ∨ c = ',' ∨ c = '\t' then flushWord acc (tokensOf [] cs)
    else if c = '[' then flushWord acc (.openSeq :: tokensOf [] cs)
    else if c = ']' then flushWord acc (.closeSeq :: tokensOf [] cs)
    else tokensOf (c :: acc) cs

/-- The value of a digit in base 10 or 16. -/
def digitValue (base : Nat) (c : Char) : Option Nat :=
  let n := c.toNat
  let v := if 48 ≤ n ∧ n ≤ 57 then some (n - 48)
    else if 65 ≤ n ∧ n ≤ 70 then some (n - 55)
    else if 97 ≤ n ∧ n ≤ 102 then some (n - 87)
    else none
  match v with
  | some d => if d < base then some d else none
  | none => none

/-- Digits read from the left, in a base. -/
def digitsFrom (base : Nat) : Nat → List Char → Option Nat
  | acc, [] => some acc
  | acc, c :: cs =>
    match digitValue base c with
    | some d => digitsFrom base (acc * base + d) cs
    | none => none

/-- A number: decimal, or hexadecimal with `0x` (30_encoding.md R77). -/
def numberOf : List Char → Option Nat
  | [] => none
  | '0' :: 'x' :: c :: cs => digitsFrom 16 0 (c :: cs)
  | c :: cs => digitsFrom 10 0 (c :: cs)

/-- An octet written as a number. -/
def octetOf (cs : List Char) : Option Octet :=
  match numberOf cs with
  | some n => if n < 256 then some (BitVec.ofNat 8 n) else none
  | none => none

/-- An octet of a sequence: two hexadecimal digits, or `0x` and hexadecimal digits (00_scope.md R7). -/
def seqOctetOf : List Char → Option Octet
  | [a, b] =>
    match digitsFrom 16 0 [a, b] with
    | some n => some (BitVec.ofNat 8 n)
    | none => none
  | '0' :: 'x' :: cs => octetOf ('0' :: 'x' :: cs)
  | _ => none

/-- Octets up to the closing bracket, which ends the line. -/
def seqOf : List Token → Option (List Octet)
  | [.closeSeq] => some []
  | .word w :: ts =>
    match seqOctetOf w, seqOf ts with
    | some o, some os => some (o :: os)
    | _, _ => none
  | _ => none

/-- Octets up to the end of the line. -/
def bareSeqOf : List Token → Option (List Octet)
  | [] => some []
  | .word w :: ts =>
    match seqOctetOf w, bareSeqOf ts with
    | some o, some os => some (o :: os)
    | _, _ => none
  | _ => none

/-- A line read from its tokens (30_encoding.md R77, R78). -/
def lineOf : List Token → Option Line
  | [.word ['R', 'X', 'N']] => some .rxn
  | [.word ['R', 'X', 'E']] => some .rxe
  | [.word ['R', 'X', 'B'], .word v] => (octetOf v).map .rxb
  | [.word ['T', 'I', 'C', 'K']] => some (.tick 1)
  | [.word ['T', 'I', 'C', 'K'], .word n] => (numberOf n).map .tick
  | [.word ['M', 'S', 'T', 'E', 'P']] => some (.mstep 1)
  | [.word ['M', 'S', 'T', 'E', 'P'], .word n] => (numberOf n).map .mstep
  | [.word ['R', 'U', 'N'], .word n] => (numberOf n).map .run
  | .word ['R', 'X', 'S'] :: ts => (bareSeqOf ts).map .rxs
  | .word ['T', 'X', 'Q'] :: .word t :: .word d :: .openSeq :: ts =>
    match octetOf t, octetOf d, seqOf ts with
    | some t', some d', some data => some (.txq t' d' data)
    | _, _, _ => none
  | .word ['R', 'P', 'L', 'Y'] :: .word t :: .openSeq :: ts =>
    match octetOf t, seqOf ts with
    | some t', some data => some (.rply t' data)
    | _, _ => none
  | .word ['R', 'X', 'F'] :: .word t :: .word d :: .word s :: .openSeq :: ts =>
    match octetOf t, octetOf d, octetOf s, seqOf ts with
    | some t', some d', some s', some data => some (.rxf t' d' s' data)
    | _, _, _, _ => none
  | _ => none

/-- A line of text: its line, nothing for a blank or comment line, or no line at all. -/
def parseLine (text : List Char) : Option (List Line) :=
  match tokensOf [] text with
  | [] => some []
  | t :: ts => (lineOf (t :: ts)).map fun l => [l]

end Sys2Proof.Machine
end

