-- ==== Sys2Proof/Machine/Bus.lean ====
section
/-! DEFINITION. Several nodes on one bus (60_exceptions.md R229, R230): independent instances of the core, each with its
own state and configuration, coupled only by the octets of their Sends. -/

namespace Sys2Proof.Machine

/-- The nodes that have started, each a state of its own: its own configuration, registers and command stream
(60_exceptions.md R229). A node not yet released from its first reset is not on the list (log entry 15). -/
abbrev Bus := List State

/-- The octets of an event on the wire: those of a Send; an Indicate puts none there (60_exceptions.md R230 (a)). -/
def Event.wireOctets : Event → List Octet
  | .send _ _ _ _ octets => octets
  | .indicate _ _ _ _ => []

/-- The octets a command put on the wire: those of the events it added. -/
def sentOctets (before after : State) : List Octet :=
  ((after.events.drop before.events.length).map Event.wireOctets).flatten

/-- `RX_BYTE o` for each octet in order (60_exceptions.md R230 (a)). -/
def feedOctets : List Octet → State → Host.Outcome State Fault Refusal
  | [], s => .next s
  | o :: os, s => andThen (runCommand (.plain (0x10#8 ++ o)) s) (feedOctets os)

/-- Goes on where an outcome is a next state of the whole bus. -/
def busThen {α : Type} (o : Host.Outcome α Fault Refusal) (k : α → Host.Outcome Bus Fault Refusal) :
    Host.Outcome Bus Fault Refusal :=
  match o with
  | .next s => k s
  | .fault r => .fault r
  | .refused r => .refused r

/-- A command or the like applied to every node, in order; it stops at the first node that stops. -/
def onEvery (f : State → Host.Outcome State Fault Refusal) : Bus → Host.Outcome Bus Fault Refusal
  | [] => .next []
  | s :: b => busThen (f s) fun s' => busThen (onEvery f b) fun b' => .next (s' :: b')

/-- Octets heard by every node but node `i`: "node i does not receive its own octets" (60_exceptions.md R230 (b)). -/
def hearBut : Nat → List Octet → Bus → Host.Outcome Bus Fault Refusal
  | _, _, [] => .next []
  | 0, os, s :: b => busThen (onEvery (feedOctets os) b) fun b' => .next (s :: b')
  | i + 1, os, s :: b => busThen (feedOctets os s) fun s' => busThen (hearBut i os b) fun b' => .next (s' :: b')

/-- Node `i` does `f`, and the Send this emits is delivered whole to every other node before anything further
(60_exceptions.md R230 (a), (b), (e)). A node number that is none changes nothing. -/
def busApply (i : Nat) (f : State → Host.Outcome State Fault Refusal) (b : Bus) : Host.Outcome Bus Fault Refusal :=
  match b[i]? with
  | none => .next b
  | some s => busThen (f s) fun s' => hearBut i (sentOctets s s') (b.set i s')

/-- One command at node `i`. -/
def busCommand (i : Nat) (c : Command) : Bus → Host.Outcome Bus Fault Refusal := busApply i (runCommand c)

/-- A reset of node `i` alone, the others running on: "each at its own reset" (60_exceptions.md R229). -/
def busReset (i : Nat) (cfg : Config) : Bus → Host.Outcome Bus Fault Refusal := busApply i (applyReset cfg)

/-- A node starts: released from its reset with its own configuration, and with its own stream to come, while the others
hold what they hold. "Nodes start independently, each at its own reset" (60_exceptions.md R229). -/
def busStart (cfg : Config) (stream : List Input) (b : Bus) : Host.Outcome Bus Fault Refusal :=
  if configLegal cfg then .next (b ++ [{ State.resetWith cfg with inputs := stream }]) else .refused .illegalConfig

/-- The next item of the node's own stream is a TICK. -/
def nextIsTick (s : State) : Bool :=
  match s.inputs with
  | .command c :: _ => c.word == 0x3000#16
  | _ => false

/-- The node can take the millisecond: its own stream presents a TICK next, or nothing. -/
def awaitsTick (s : State) : Bool := s.inputs.isEmpty || nextIsTick s

/-- The node takes a TICK, and with it the item of its own stream that presents it, if any. -/
def ownTick (s : State) : Host.Outcome State Fault Refusal :=
  runCommand (.plain 0x3000) { s with inputs := s.inputs.tail }

/-- Node `i` steps on its own stream (60_exceptions.md R229), its Send delivered as in `busApply`. A TICK is applied to
all nodes together (R230 (d)): a node whose stream presents one waits until no other presents anything else first
(DESIGN CHOICE, log entry 15). -/
def busStep (i : Nat) (b : Bus) : Host.Outcome Bus Fault Refusal :=
  if (b[i]?.map nextIsTick).getD false then
    if b.all awaitsTick then onEvery ownTick b else .next b
  else busApply i step b

/-- "A single interleaved sequence of node steps": the numbers of the nodes, in the order in which they step
(60_exceptions.md R230). -/
def busRun : List Nat → Bus → Host.Outcome Bus Fault Refusal
  | [], b => .next b
  | i :: is, b => busThen (busStep i b) (busRun is)

/-- A TICK, applied to all nodes together (60_exceptions.md R230 (d)). -/
def busTick (b : Bus) : Host.Outcome Bus Fault Refusal := onEvery (runCommand (.plain 0x3000)) b

/-- Node `i`'s part of a driver-loop cycle with no octet arriving: RX_NONE, then MASTER_STEP
(60_exceptions.md R230 (c), 70_reset_and_hazards.md R239). -/
def busTurn (i : Nat) (b : Bus) : Host.Outcome Bus Fault Refusal :=
  busThen (busCommand i (.plain 0x0000) b) (busCommand i (.plain 0x4000))

/-- The turns of nodes `i`, `i + 1`, …, `n` of them. -/
def busTurns : Nat → Nat → Bus → Host.Outcome Bus Fault Refusal
  | _, 0, b => .next b
  | i, n + 1, b => busThen (busTurn i b) (busTurns (i + 1) n)

/-- One cycle of the whole bus: every node's turn in order, then the TICK. -/
def busCycle (b : Bus) : Host.Outcome Bus Fault Refusal :=
  busThen (busTurns 0 b.length b) busTick

end Sys2Proof.Machine
end

