-- ==== Sys2Proof/Machine/Causes.lean ====
section
/-! DEFINITION. The error conditions the core detects and their cause codes (60_exceptions.md R216, R217), and the frame
result a receive command posts (41_receive_fsm.md R114, R115). "No register holds them": they are functions of the
instruction and of the state it finds, and the machine reads none of them. -/

namespace Sys2Proof.Machine

/-- The twenty conditions of 60_exceptions.md R217. -/
inductive ErrorCause where
  | rxErrorInPreamble
  | rxErrorInHeader
  | rxErrorInData
  | timeoutInPreamble
  | timeoutInHeader
  | timeoutInData
  | headerCrcBad
  | lengthTooLong
  | dataCrcBad
  | lostToken
  | replyTimeout
  | invalidWhileWaiting
  | unexpectedFrameWhileWaiting
  | tokenPassUnconfirmed
  | successorFailed
  | unexpectedFrameWhilePolling
  | pollUnanswered
  | replyDelayExpired
  | resultOverrun
  | commandIgnored
  deriving DecidableEq, Repr

/-- The four classes of 60_exceptions.md R216. -/
inductive ErrorClass where
  /-- (a) transport errors. -/
  | transport
  /-- (b) protocol-timing errors. -/
  | timing
  /-- (c) checksum failures. -/
  | checksum
  /-- (d) protocol anomalies. -/
  | anomaly
  deriving DecidableEq, Repr

/-- The cause code (60_exceptions.md R217). -/
def ErrorCause.code : ErrorCause → Nat
  | .rxErrorInPreamble => 1
  | .rxErrorInHeader => 2
  | .rxErrorInData => 3
  | .timeoutInPreamble => 4
  | .timeoutInHeader => 5
  | .timeoutInData => 6
  | .headerCrcBad => 7
  | .lengthTooLong => 8
  | .dataCrcBad => 9
  | .lostToken => 10
  | .replyTimeout => 11
  | .invalidWhileWaiting => 12
  | .unexpectedFrameWhileWaiting => 13
  | .tokenPassUnconfirmed => 14
  | .successorFailed => 15
  | .unexpectedFrameWhilePolling => 16
  | .pollUnanswered => 17
  | .replyDelayExpired => 18
  | .resultOverrun => 19
  | .commandIgnored => 20

/-- The class column of 60_exceptions.md R217; causes 19 and 20 "are in no class". -/
def ErrorCause.errorClass : ErrorCause → Option ErrorClass
  | .rxErrorInPreamble | .rxErrorInHeader | .rxErrorInData => some .transport
  | .timeoutInPreamble | .timeoutInHeader | .timeoutInData => some .timing
  | .headerCrcBad | .lengthTooLong | .dataCrcBad => some .checksum
  | .lostToken | .replyTimeout => some .timing
  | .invalidWhileWaiting => some .checksum
  | .unexpectedFrameWhileWaiting => some .anomaly
  | .tokenPassUnconfirmed | .successorFailed => some .timing
  | .unexpectedFrameWhilePolling => some .anomaly
  | .pollUnanswered | .replyDelayExpired => some .timing
  | .resultOverrun | .commandIgnored => none

/-- What a receive command carries (41_receive_fsm.md R96 to R98, section 8). -/
inductive RxSignal where
  | nothing
  | octet (v : Octet)
  | error
  deriving DecidableEq, Repr

/-- What a receive command carries, of the three instructions that are one. -/
def rxSignalOf : Instr → Option RxSignal
  | .rxNone => some .nothing
  | .rxByte v => some (.octet v)
  | .rxError => some .error
  | .tick | .masterStep | .txQueue _ | .reply _ | .reservedOp7 _ | .reservedOp8F _ | .malformed _ => none
  | .ftToken | .ftPfm | .ftRpfm | .ftTreq | .ftTrsp | .ftDer | .ftDner | .ftRp => none
  | .ftReserved08 _ | .ftReserved10 _ | .ftReserved20 _ | .ftReserved40 _ | .ftProprietary _ => none

/-- The octet `v` is the sixth of a header: HeaderCrc runs in its command (41_receive_fsm.md R107). -/
def endsHeader (s : State) : Bool := s.rxState == .header && s.rxIndex == 5

/-- The octet `v` is the second data-CRC octet: DataCrc runs in its command (41_receive_fsm.md R111). -/
def endsData (s : State) : Bool := s.rxState == .data && (s.rxIndex + 1).toNat == s.rxLen.toNat + 2

/-- HeaderCrc's destination test: this station or broadcast (41_receive_fsm.md R110 (b)). -/
def addressedHere (s : State) : Bool := s.rxDest == s.cfg.ts || s.rxDest == broadcast

/-- The error condition a receive command detects, besides an overrun (60_exceptions.md R217 codes 1 to 9). A timeout
comes first, and then the octet or error finds the receiver in Idle (R221 (a)). -/
def rxCause (sig : RxSignal) (s : State) : Option ErrorCause :=
  if frameAborts s then
    match s.rxState with
    | .idle => none
    | .preamble => some .timeoutInPreamble
    | .header => some .timeoutInHeader
    | .data => some .timeoutInData
  else match sig with
    | .nothing => none
    | .error =>
      match s.rxState with
      | .idle => none
      | .preamble => some .rxErrorInPreamble
      | .header => some .rxErrorInHeader
      | .data => some .rxErrorInData
    | .octet v =>
      if endsHeader s then
        if hUpdate v s.rxHcrc ≠ hGood then some .headerCrcBad
        else if addressedHere s && decide (nMaxData < s.rxLen.toNat) then some .lengthTooLong
        else none
      else if endsData s && dUpdate v s.rxDcrc != dGood then some .dataCrcBad
      else none

/-- The frame result a receive command posts: the table of 41_receive_fsm.md R114, the document's
"`{ValidFrame(fields) | InvalidFrame | Pending}`" (R115). -/
def frameResult (sig : RxSignal) (s : State) : Option FrameResult :=
  match rxCause sig s with
  | some .timeoutInHeader | some .timeoutInData | some .rxErrorInHeader | some .rxErrorInData
  | some .headerCrcBad | some .lengthTooLong | some .dataCrcBad => some .invalid
  | some _ => none
  | none =>
    match sig with
    | .octet _ =>
      if frameAborts s then none
      else if endsHeader s && addressedHere s && s.rxLen == 0 then some .valid
      else if endsData s then some .valid
      else none
    | .nothing | .error => none

/-- The error conditions of a receive command, an overrun among them (60_exceptions.md R217 codes 1 to 9 and 19). -/
def rxCauses (sig : RxSignal) (s : State) : List ErrorCause :=
  (rxCause sig s).toList ++
    (if (frameResult sig s).isSome && (s.rvf || s.rif) then [.resultOverrun] else [])

/-- The error condition of a frame of type `t` taken by TKFSM (60_exceptions.md R217 codes 13 and 16). -/
def frameCauses (t : Octet) (s : State) : List ErrorCause :=
  match s.tkState with
  | .waitForReply =>
    if s.frDest = s.cfg.ts ∧ (expectedReply s.waitType = some t ∨ t = 7) then [] else [.unexpectedFrameWhileWaiting]
  | .pollForMaster => if s.frDest = s.cfg.ts ∧ t = 2 then [] else [.unexpectedFrameWhilePolling]
  | .initial | .idle | .useToken | .doneWithToken | .passToken | .noToken | .answerDataRequest | .unused _ => []

/-- The error conditions a MASTER_STEP detects (60_exceptions.md R217 codes 10 to 18). -/
def masterCauses (s : State) : List ErrorCause :=
  match s.tkState with
  | .idle => if tokenLost s then [.lostToken] else []
  | .waitForReply =>
    if replyTimedOut s then [.replyTimeout]
    else if s.rif then [.invalidWhileWaiting]
    else if s.rvf then frameCauses s.frType s
    else []
  | .passToken =>
    if usageTimedOut s then
      if s.retryCount < s.cfg.nRetryToken then [.tokenPassUnconfirmed] else [.successorFailed]
    else []
  | .pollForMaster =>
    if s.rvf then frameCauses s.frType s else if pollTimedOut s then [.pollUnanswered] else []
  | .answerDataRequest => if replyDelayOver s then [.replyDelayExpired] else []
  | .initial | .useToken | .doneWithToken | .noToken | .unused _ => []

/-- The error conditions an instruction detects in a state (60_exceptions.md R217). -/
def detectedCauses (i : Instr) (s : State) : List ErrorCause :=
  match i with
  | .rxNone => rxCauses .nothing s
  | .rxByte v => rxCauses (.octet v) s
  | .rxError => rxCauses .error s
  | .tick => []
  | .masterStep => masterCauses s
  | .txQueue d => if txAcceptable s d.dType d.dDest d.dLen then [] else [.commandIgnored]
  | .reply d => if rplAcceptable s d.dType d.dLen then [] else [.commandIgnored]
  | .reservedOp7 _ | .reservedOp8F _ | .malformed _ => [.commandIgnored]
  | .ftToken | .ftPfm | .ftRpfm | .ftTreq | .ftTrsp | .ftDer | .ftDner | .ftRp
  | .ftReserved08 _ | .ftReserved10 _ | .ftReserved20 _ | .ftReserved40 _ | .ftProprietary _ =>
    match encode i with
    | .frameType t => if takesFrame s then frameCauses t s else []
    | .command _ => []

end Sys2Proof.Machine
end

