-- ==== Sys2Proof/Safety.lean ====
section
/-! DEFINITION. What counts as a good state: the invariants of 42_token_fsm.md R176 and those of the registers' value
columns (10_state.md R17), and what counts as a loss (10_state.md R34, 70_reset_and_hazards.md R243). -/

namespace Sys2Proof.Machine

/-- The lengths and the receive index keep every buffer access inside 0..500 (20_memory.md R48, R49). -/
structure BufferBounds (s : State) : Prop where
  /-- `fr_len <= 501` (10_state.md R17). -/
  frLen : s.frLen.toNat ≤ nMaxData
  /-- `txq_len <= 501`. -/
  txqLen : s.txqLen.toNat ≤ nMaxData
  /-- `rpl_len <= 501`. -/
  rplLen : s.rplLen.toNat ≤ nMaxData
  /-- "`rx_len <= 501` holds whenever Data is entered" (20_memory.md R48). -/
  rxLen : s.rxState = .data → s.rxLen.toNat ≤ nMaxData

/-- The invariant. It holds at reset and every step keeps it. -/
structure Inv (s : State) : Prop where
  /-- The configuration is legal (00_scope.md R6). -/
  cfg : configLegal s.cfg = true
  rxBuf : s.rxBuf.wf = true
  txqData : s.txqData.wf = true
  rplData : s.rplData.wf = true
  bounds : BufferBounds s
  /-- "`rx_index` takes the values 0 to 5 between commands while `rx_state = Header`" (41_receive_fsm.md R109). -/
  headerIndex : s.rxState = .header → s.rxIndex.toNat ≤ 5
  /-- In Data the index is below `rx_len + 2`, and the length is not 0 (10_state.md R19, 41_receive_fsm.md R110). -/
  dataIndex : s.rxState = .data → s.rxIndex.toNat < s.rxLen.toNat + 2 ∧ s.rxLen ≠ 0
  /-- Data is entered only for a frame addressed here (41_receive_fsm.md R110 (b)). -/
  dataDest : s.rxState = .data → s.rxDest = s.cfg.ts ∨ s.rxDest = broadcast
  /-- A posted valid frame is for `TS` or 255 (10_state.md R17, 42_token_fsm.md R134). -/
  frDest : s.rvf = true → s.frDest = s.cfg.ts ∨ s.frDest = broadcast
  /-- 42_token_fsm.md R176 (i). -/
  detectors : ¬(s.rvf = true ∧ s.rif = true)
  /-- 42_token_fsm.md R176 (a). -/
  named : s.tkState.named = true
  /-- 42_token_fsm.md R176 (b). -/
  frameCount : s.frameCount ≤ s.cfg.nMaxInfoFrames
  /-- 42_token_fsm.md R143: it holds "whenever UseToken is entered". -/
  useToken : s.tkState = .useToken → s.frameCount < s.cfg.nMaxInfoFrames
  /-- 42_token_fsm.md R176 (b). -/
  retryCount : s.retryCount ≤ s.cfg.nRetryToken
  /-- 42_token_fsm.md R176 (c), with `TS <= N_MAX_MASTER`. -/
  ps : s.ps ≤ s.cfg.nMaxMaster
  /-- 42_token_fsm.md R176 (e). -/
  soleMaster : s.soleMaster = true → s.ns = s.cfg.ts
  /-- 42_token_fsm.md R176 (f). -/
  waitType : s.tkState = .waitForReply → s.waitType = 3 ∨ s.waitType = 5
  /-- 42_token_fsm.md R176 (g). -/
  reqType : s.tkState = .answerDataRequest → s.reqType = 3 ∨ s.reqType = 5
  /-- 42_token_fsm.md R176 (h). -/
  rplPending : s.rplValid = true → s.tkState = .answerDataRequest ∧ s.reqType = 5 ∧ isReplyType s.rplType = true
  /-- What the transmit slot holds was acceptable (44_host_ops.md R199 (b), (d)). -/
  txqPending : s.txqValid = true →
    isQueueable s.txqType = true ∧ ¬(expectsReply s.txqType = true ∧ s.txqDest = broadcast)

/-- An octet stream received, one RX_BYTE per octet (30_encoding.md R78, `RXS`). -/
def receiveOctets : List Octet → State → Host.Outcome State Fault Refusal
  | [], s => .next s
  | o :: os, s => andThen (exec (.rxByte o) s) (receiveOctets os)

/-- Nothing was lost and nothing refused: both STATUS bits are clear. "A model may treat either bit as a fault bit"
(10_state.md R34, 70_reset_and_hazards.md R243). -/
def NothingLost (s : State) : Prop := s.status = 0

end Sys2Proof.Machine
end

