-- ==== Sys2Proof/Certificates/Slice0/Obligations.lean ====
section
/-! DEFINITION. The statements for the provers. Each docstring names the rule of spec/ it formalises. In all of them the
state is any state; a premise on lengths (BufferBounds, or one length at most 501) rules out only states in which a
buffer would be read past index 500, which no run reaches (it is part of the invariant of the last statements). -/

open Sys2Proof Sys2Proof.Machine

namespace Sys2Proof.Statements

/-- The frame-abort comparator does not hold: `silence <= T_FRAME_ABORT` (41_receive_fsm.md R100). -/
def InTime (s : State) : Prop := s.silence ≤ s.cfg.tFrameAbort

/-- `STATUS` after a post in state `s`: RX_OVERRUN is set over a result not yet consumed (41_receive_fsm.md R115). -/
def statusPosted (s : State) : BitVec 2 := if s.rvf = true ∨ s.rif = true then s.status ||| 1#2 else s.status

/-- TKFSM in Idle with a valid frame posted, the line not silent and nothing invalid pending
(42_token_fsm.md R132 to R134): the frame is taken. -/
def IdleTakes (s : State) : Prop :=
  s.tkState = .idle ∧ s.silence < s.cfg.tNoToken ∧ s.rif = false ∧ s.rvf = true

/-- TKFSM in WaitForReply with a valid frame posted, no timeout and nothing invalid pending
(42_token_fsm.md R145 to R149): the frame is taken. -/
def WaitTakes (s : State) : Prop :=
  s.tkState = .waitForReply ∧ s.silence < s.cfg.tReplyTimeout ∧ s.rif = false ∧ s.rvf = true

/-- TKFSM in PollForMaster with a valid frame posted (42_token_fsm.md R165, R166): the frame is taken. -/
def PollTakes (s : State) : Prop := s.tkState = .pollForMaster ∧ s.rvf = true

/-- The events after a Send (42_token_fsm.md R128). -/
def sent (s : State) (t d : Octet) (data : List Octet) : List Event :=
  s.events ++ [.send t d s.cfg.ts data (encodeFrame t d s.cfg.ts data)]

/-- The events after an Indicate of the latched frame, its type octet being `t` (42_token_fsm.md R130). -/
def indicated (s : State) (t : Octet) : List Event :=
  s.events ++ [.indicate t s.frDest s.frSrc (s.rxBuf.octets s.frLen.toNat)]

/-- `next(x)` (42_token_fsm.md R129), written out. -/
def nextOf (s : State) (x : Octet) : Octet := BitVec.ofNat 8 ((x.toNat + 1) % (s.cfg.nMaxMaster.toNat + 1))

/-- A stream with no 0x55 immediately followed by 0xFF (41_receive_fsm.md R117). -/
def NoPreamble (os : List Octet) : Prop := ∀ pre post : List Octet, os ≠ pre ++ [0x55, 0xFF] ++ post

/-- The thirteen frame types as instructions, by their octet (30_encoding.md R66 to R68). -/
def frameInstr (t : Octet) : Instr := decodeFrameType t

/-- Node `i` of `b`, in state `s`, does something of outcome `o`: the bus `b'` after it has the same number of nodes, node
`i` as `o` leaves it, and every other node in the state it reaches on hearing the octets sent, whole and in order. -/
def Delivers (i : Nat) (s : State) (o : Host.Outcome State Fault Refusal) (b b' : Bus) : Prop :=
  b'.length = b.length ∧
  ∃ s', o = .next s' ∧ b'[i]? = some s' ∧
    ∀ j u, j ≠ i → b[j]? = some u → ∃ u', feedOctets (sentOctets s s') u = .next u' ∧ b'[j]? = some u'

end Sys2Proof.Statements

open Sys2Proof.Statements

/-! ## Encodings -/

/-- Words written out from 30_encoding.md R73 and frame-type octets from R66 decode to what they stand for. -/
def Obligations.SpecWordsDecode : Prop :=
  decode (.command (.plain 0x0000)) = .ok .rxNone ∧
  decode (.command (.plain 0x10AB)) = .ok (.rxByte 0xAB) ∧
  decode (.command (.plain 0x2000)) = .ok .rxError ∧
  decode (.command (.plain 0x3000)) = .ok .tick ∧
  decode (.command (.plain 0x4000)) = .ok .masterStep ∧
  decode (.command ⟨0x5000, ⟨3, 4, 1, [0x41]⟩⟩) = .ok (.txQueue ⟨3, 4, 1, [0x41]⟩) ∧
  decode (.command ⟨0x6000, ⟨6, 0, 1, [0xAA]⟩⟩) = .ok (.reply ⟨6, 0, 1, [0xAA]⟩) ∧
  decode (.command (.plain 0x7123)) = .ok (.reservedOp7 0x123) ∧
  decode (.command (.plain 0xF123)) = .ok (.reservedOp8F 0x7123) ∧
  decode (.command (.plain 0x3001)) = .ok (.malformed 0x3001) ∧
  decode (.frameType 0x00) = .ok .ftToken ∧
  decode (.frameType 0x05) = .ok .ftDer ∧
  decode (.frameType 0x7F) = .ok (.ftReserved40 0x3F) ∧
  decode (.frameType 0x80) = .ok (.ftProprietary 0)

/-- Decoding the encoding of a well-formed instruction gives it back. -/
def Obligations.DecodeInvertsEncode : Prop :=
  ∀ i : Instr, i.wf = true → decode (encode i) = .ok i

/-- 44_host_ops.md R197: the decode of a command word. -/
def Obligations.WordDecodesByItsFields : Prop :=
  ∀ (w : Word16) (d : Descriptor), d.wf = true →
    let op := w.toNat / 4096
    let rsv := w.toNat / 256 % 16
    let imm8 := w.toNat % 256
    (6 < op ∨ rsv ≠ 0 ∨ (op ≠ 1 ∧ imm8 ≠ 0) →
      ∃ i, decode (.command ⟨w, d⟩) = .ok i ∧ ∀ s, exec i s = .next { s with status := s.status ||| 2#2 }) ∧
    (¬(6 < op ∨ rsv ≠ 0 ∨ (op ≠ 1 ∧ imm8 ≠ 0)) →
      decode (.command ⟨w, d⟩) = .ok
        (if op = 0 then .rxNone
         else if op = 1 then .rxByte (BitVec.ofNat 8 imm8)
         else if op = 2 then .rxError
         else if op = 3 then .tick
         else if op = 4 then .masterStep
         else if op = 5 then .txQueue d
         else .reply d))

/-- Every frame-type octet decodes to its row and is that row's encoding (30_encoding.md R66 to R68). -/
def Obligations.FrameTypesDecode : Prop :=
  ∀ t : Octet,
    encode (frameInstr t) = .frameType t ∧
    (t = 0 → frameInstr t = .ftToken) ∧ (t = 1 → frameInstr t = .ftPfm) ∧ (t = 2 → frameInstr t = .ftRpfm) ∧
    (t = 3 → frameInstr t = .ftTreq) ∧ (t = 4 → frameInstr t = .ftTrsp) ∧ (t = 5 → frameInstr t = .ftDer) ∧
    (t = 6 → frameInstr t = .ftDner) ∧ (t = 7 → frameInstr t = .ftRp) ∧
    (8 ≤ t.toNat ∧ t.toNat < 16 → ∃ k, frameInstr t = .ftReserved08 k) ∧
    (16 ≤ t.toNat ∧ t.toNat < 32 → ∃ k, frameInstr t = .ftReserved10 k) ∧
    (32 ≤ t.toNat ∧ t.toNat < 64 → ∃ k, frameInstr t = .ftReserved20 k) ∧
    (64 ≤ t.toNat ∧ t.toNat < 128 → ∃ k, frameInstr t = .ftReserved40 k) ∧
    (128 ≤ t.toNat → ∃ k, frameInstr t = .ftProprietary k)

/-! ## Checksums and the encoder -/

/-- 40_frame_codec.md R83. -/
def Obligations.HeaderUpdateSerialForm : Prop :=
  ∀ b acc : Octet, hUpdate b acc = hUpdateSerial b acc

/-- 40_frame_codec.md R87, with its check value. -/
def Obligations.DataUpdateSerialForm : Prop :=
  (∀ (b : Octet) (acc : Word16), dUpdate b acc = dUpdateSerial b acc) ∧
  dataCrc [0x31, 0x32, 0x33, 0x34, 0x35, 0x36, 0x37, 0x38, 0x39] = 0x906E

/-- 40_frame_codec.md R85: the transmitted header CRC, and that it is the one octet that checks good. -/
def Obligations.HeaderCrcIsTheGoodOctet : Prop :=
  (∀ t d s lh ll hc : Octet,
    headerCrcOctet t d s lh ll = ~~~(hUpdate ll (hUpdate lh (hUpdate s (hUpdate d (hUpdate t 0xFF))))) ∧
    (hUpdate hc (hUpdate ll (hUpdate lh (hUpdate s (hUpdate d (hUpdate t 0xFF))))) = 0x55 ↔
      hc = headerCrcOctet t d s lh ll)) ∧
  headerCrcOctet 0x00 0x02 0x01 0x00 0x00 = 0x73

/-- 40_frame_codec.md R89 and, for the end of a frame, R91: the transmitted data CRC, its octet order, and that payload and
CRC check good. That a frame of more than 501 data octets, which R91's operands exclude, ends so too is the model's choice
(log entry 18). -/
def Obligations.DataCrcChecksGood : Prop :=
  (∀ data : List Octet,
    dataCrc data = ~~~(dFold 0xFFFF data) ∧
    dFold 0xFFFF (data ++ [(dataCrc data).extractLsb' 0 8, (dataCrc data).extractLsb' 8 8]) = 0xF0B8 ∧
    ∀ t d s : Octet, data ≠ [] →
      ∃ pre, encodeFrame t d s data =
        pre ++ data ++ [(dataCrc data).extractLsb' 0 8, (dataCrc data).extractLsb' 8 8]) ∧
  dataCrc [0x01, 0x02, 0x03] = 0x9D3B

/-- 40_frame_codec.md R94: changing one octet that a checksum covers, or one of the checksum's own, spoils the
residue. -/
def Obligations.SingleOctetChangeDetected : Prop :=
  (∀ (header : List Octet) (i : Nat) (v : Octet), header.length = 6 → ∀ h : i < header.length, v ≠ header[i] →
    hFold 0xFF header = 0x55 → hFold 0xFF (header.set i v) ≠ 0x55) ∧
  (∀ (body : List Octet) (i : Nat) (v : Octet) (h : i < body.length), v ≠ body[i] →
    dFold 0xFFFF body = 0xF0B8 → dFold 0xFFFF (body.set i v) ≠ 0xF0B8)

/-- 40_frame_codec.md R91: the octets of a frame. -/
def Obligations.EncodedFrameShape : Prop :=
  (∀ (t d s : Octet) (data : List Octet), data.length ≤ 501 →
    let lh := BitVec.ofNat 8 (data.length / 256)
    let ll := BitVec.ofNat 8 (data.length % 256)
    let hc := ~~~(hUpdate ll (hUpdate lh (hUpdate s (hUpdate d (hUpdate t 0xFF)))))
    let c := ~~~(dFold 0xFFFF data)
    (data = [] → encodeFrame t d s data = [0x55, 0xFF, t, d, s, lh, ll, hc]) ∧
    (data ≠ [] → encodeFrame t d s data =
      [0x55, 0xFF, t, d, s, lh, ll, hc] ++ data ++ [c.extractLsb' 0 8, c.extractLsb' 8 8]) ∧
    (data.length = 501 → (encodeFrame t d s data).length = 511)) ∧
  encodeFrame 5 5 4 [0x01, 0x02, 0x03] =
    [0x55, 0xFF, 0x05, 0x05, 0x04, 0x00, 0x03, 0xAE, 0x01, 0x02, 0x03, 0x3B, 0x9D]

/-! ## The receiver -/

/-- 41_receive_fsm.md R101, R102: an octet or an error in Idle. -/
def Obligations.IdleOctetOrError : Prop :=
  ∀ s : State, s.rxState = .idle →
    exec (.rxByte 0x55) s =
      .next { s with silence := 0, eventCount := satInc8 s.eventCount, rxState := .preamble } ∧
    (∀ v : Octet, v ≠ 0x55 →
      exec (.rxByte v) s = .next { s with silence := 0, eventCount := satInc8 s.eventCount }) ∧
    exec .rxError s = .next { s with silence := 0, eventCount := satInc8 s.eventCount }

/-- 41_receive_fsm.md R103 to R106: an octet or an error in Preamble, in time. -/
def Obligations.PreambleOctetOrError : Prop :=
  ∀ s : State, s.rxState = .preamble → InTime s →
    exec (.rxByte 0xFF) s =
      .next { s with
        silence := 0, eventCount := satInc8 s.eventCount, rxHcrc := 0xFF, rxIndex := 0, rxState := .header } ∧
    exec (.rxByte 0x55) s = .next { s with silence := 0, eventCount := satInc8 s.eventCount } ∧
    (∀ v : Octet, v ≠ 0x55 → v ≠ 0xFF →
      exec (.rxByte v) s =
        .next { s with silence := 0, eventCount := satInc8 s.eventCount, rxState := .idle }) ∧
    exec .rxError s = .next { s with silence := 0, eventCount := satInc8 s.eventCount, rxState := .idle }

/-- 41_receive_fsm.md R107, the first five octets of a header: folded, counted and stored by position. -/
def Obligations.HeaderOctetStored : Prop :=
  ∀ (s : State) (v : Octet), s.rxState = .header → InTime s → s.rxIndex.toNat < 5 →
    exec (.rxByte v) s =
      .next { s with
        silence := 0
        eventCount := satInc8 s.eventCount
        rxHcrc := hUpdate v s.rxHcrc
        rxIndex := s.rxIndex + 1
        rxType := if s.rxIndex = 0 then v else s.rxType
        rxDest := if s.rxIndex = 1 then v else s.rxDest
        rxSrc := if s.rxIndex = 2 then v else s.rxSrc
        rxLen :=
          if s.rxIndex = 3 then BitVec.ofNat 16 (v.toNat * 256 + s.rxLen.toNat % 256)
          else if s.rxIndex = 4 then BitVec.ofNat 16 (s.rxLen.toNat / 256 * 256 + v.toNat)
          else s.rxLen }

/-- 41_receive_fsm.md R110 (a) to (e): the sixth header octet, with `post` written out (R115). -/
def Obligations.HeaderCrcBranches : Prop :=
  ∀ (s : State) (v : Octet), s.rxState = .header → InTime s → s.rxIndex = 5 →
    let s1 : State :=
      { s with silence := 0, eventCount := satInc8 s.eventCount, rxHcrc := hUpdate v s.rxHcrc, rxIndex := 6 }
    let invalid : State := { s1 with rxState := .idle, rif := true, rvf := false, status := statusPosted s }
    (s1.rxHcrc ≠ 0x55 → exec (.rxByte v) s = .next invalid) ∧
    (s1.rxHcrc = 0x55 → s.rxDest ≠ s.cfg.ts → s.rxDest ≠ 255 →
      exec (.rxByte v) s = .next { s1 with rxState := .idle }) ∧
    (s1.rxHcrc = 0x55 → (s.rxDest = s.cfg.ts ∨ s.rxDest = 255) → 501 < s.rxLen.toNat →
      exec (.rxByte v) s = .next invalid) ∧
    (s1.rxHcrc = 0x55 → (s.rxDest = s.cfg.ts ∨ s.rxDest = 255) → s.rxLen = 0 →
      exec (.rxByte v) s =
        .next { s1 with
          rxState := .idle, rvf := true, rif := false, status := statusPosted s
          frType := s.rxType, frDest := s.rxDest, frSrc := s.rxSrc, frLen := s.rxLen }) ∧
    (s1.rxHcrc = 0x55 → (s.rxDest = s.cfg.ts ∨ s.rxDest = 255) → s.rxLen.toNat ≤ 501 → s.rxLen ≠ 0 →
      exec (.rxByte v) s = .next { s1 with rxDcrc := 0xFFFF, rxIndex := 0, rxState := .data })

/-- 41_receive_fsm.md R108, R112: an error in Header or Data, in time, aborts the frame as invalid. -/
def Obligations.ErrorAbortsFrame : Prop :=
  ∀ s : State, (s.rxState = .header ∨ s.rxState = .data) → InTime s →
    exec .rxError s =
      .next { s with
        silence := 0, eventCount := satInc8 s.eventCount
        rxState := .idle, rif := true, rvf := false, status := statusPosted s }

/-- 41_receive_fsm.md R111, R113: an octet in Data. A payload octet is stored at `rx_index` and every other buffer octet
reads as before; a data-CRC octet is folded only; the last one posts the result. -/
def Obligations.DataOctetFolded : Prop :=
  ∀ (s : State) (v : Octet), s.rxState = .data → InTime s → s.rxBuf.wf = true → s.rxLen.toNat ≤ 501 →
    s.rxIndex.toNat < s.rxLen.toNat + 2 →
    let s1 : State :=
      { s with
        silence := 0, eventCount := satInc8 s.eventCount, rxDcrc := dUpdate v s.rxDcrc, rxIndex := s.rxIndex + 1 }
    (s.rxIndex.toNat < s.rxLen.toNat →
      ∃ m : Memory, exec (.rxByte v) s = .next { s1 with rxBuf := m } ∧
        m.read s.rxIndex.toNat = v ∧ ∀ a : Nat, a ≠ s.rxIndex.toNat → m.read a = s.rxBuf.read a) ∧
    (s.rxIndex.toNat = s.rxLen.toNat → exec (.rxByte v) s = .next s1) ∧
    (s.rxIndex.toNat = s.rxLen.toNat + 1 → dUpdate v s.rxDcrc = 0xF0B8 →
      exec (.rxByte v) s =
        .next { s1 with
          rxState := .idle, rvf := true, rif := false, status := statusPosted s
          frType := s.rxType, frDest := s.rxDest, frSrc := s.rxSrc, frLen := s.rxLen }) ∧
    (s.rxIndex.toNat = s.rxLen.toNat + 1 → dUpdate v s.rxDcrc ≠ 0xF0B8 →
      exec (.rxByte v) s =
        .next { s1 with rxState := .idle, rif := true, rvf := false, status := statusPosted s })

/-- 41_receive_fsm.md R96, R100: the frame-abort timeout. RX_NONE runs the timeout phase only; an octet or an error in
the same command is then handled in Idle. -/
def Obligations.FrameAbortTimeout : Prop :=
  ∀ s : State,
    ((s.rxState = .idle ∨ InTime s) → exec .rxNone s = .next s) ∧
    (s.rxState = .preamble → ¬InTime s →
      exec .rxNone s = .next { s with rxState := .idle } ∧
      (∀ v, exec (.rxByte v) s = exec (.rxByte v) { s with rxState := .idle }) ∧
      exec .rxError s = exec .rxError { s with rxState := .idle }) ∧
    ((s.rxState = .header ∨ s.rxState = .data) → ¬InTime s →
      let t : State := { s with rxState := .idle, rif := true, rvf := false, status := statusPosted s }
      exec .rxNone s = .next t ∧
      (∀ v, exec (.rxByte v) s = exec (.rxByte v) t) ∧
      exec .rxError s = exec .rxError t)

/-- 41_receive_fsm.md R99: every octet and every error clears `silence` and counts, in every receive state, and the
command completes; RX_NONE does neither. -/
def Obligations.ReceiveActivity : Prop :=
  ∀ s : State, BufferBounds s →
    (∀ v, ∃ t, exec (.rxByte v) s = .next t ∧ t.silence = 0 ∧ t.eventCount = satInc8 s.eventCount) ∧
    (∃ t, exec .rxError s = .next t ∧ t.silence = 0 ∧ t.eventCount = satInc8 s.eventCount) ∧
    (∃ t, exec .rxNone s = .next t ∧ t.silence = s.silence ∧ t.eventCount = s.eventCount)

/-- 41_receive_fsm.md R118, R96 and R98: what receive commands never write, and that they emit nothing. -/
def Obligations.ReceiveFrame : Prop :=
  ∀ (i : Instr) (s t : State), (rxSignalOf i).isSome = true → exec i s = .next t →
    t.cfg = s.cfg ∧ t.tkState = s.tkState ∧ t.ns = s.ns ∧ t.ps = s.ps ∧ t.soleMaster = s.soleMaster ∧
    t.tokenCount = s.tokenCount ∧ t.frameCount = s.frameCount ∧ t.retryCount = s.retryCount ∧
    t.reqSrc = s.reqSrc ∧ t.reqType = s.reqType ∧ t.waitType = s.waitType ∧ t.replyTimer = s.replyTimer ∧
    t.txqValid = s.txqValid ∧ t.txqType = s.txqType ∧ t.txqDest = s.txqDest ∧ t.txqLen = s.txqLen ∧
    t.txqData = s.txqData ∧ t.rplValid = s.rplValid ∧ t.rplType = s.rplType ∧ t.rplLen = s.rplLen ∧
    t.rplData = s.rplData ∧ t.cmdIgnored = s.cmdIgnored ∧ t.inputs = s.inputs ∧ t.events = s.events ∧
    ((i = .rxNone ∨ i = .rxError) →
      t.rxIndex = s.rxIndex ∧ t.rxHcrc = s.rxHcrc ∧ t.rxDcrc = s.rxDcrc ∧ t.rxType = s.rxType ∧
      t.rxDest = s.rxDest ∧ t.rxSrc = s.rxSrc ∧ t.rxLen = s.rxLen ∧ (∀ a, t.rxBuf.read a = s.rxBuf.read a) ∧
      t.frType = s.frType ∧ t.frDest = s.frDest ∧ t.frSrc = s.frSrc ∧ t.frLen = s.frLen) ∧
    (i = .rxNone → t.silence = s.silence ∧ t.eventCount = s.eventCount) ∧
    (s.rxState ≠ .data → ∀ a, t.rxBuf.read a = s.rxBuf.read a)

/-- 41_receive_fsm.md R114, R115: a receive command posts what the outcome table says, and the detectors, the latch and
RX_OVERRUN change so and only so. -/
def Obligations.ReceivePostsTableResult : Prop :=
  ∀ (i : Instr) (sig : RxSignal) (s t : State), rxSignalOf i = some sig → exec i s = .next t →
    match frameResult sig s with
    | none =>
      t.rvf = s.rvf ∧ t.rif = s.rif ∧ t.status = s.status ∧
        t.frType = s.frType ∧ t.frDest = s.frDest ∧ t.frSrc = s.frSrc ∧ t.frLen = s.frLen
    | some .invalid =>
      t.rvf = false ∧ t.rif = true ∧ t.status = statusPosted s ∧
        t.frType = s.frType ∧ t.frDest = s.frDest ∧ t.frSrc = s.frSrc ∧ t.frLen = s.frLen
    | some .valid =>
      t.rvf = true ∧ t.rif = false ∧ t.status = statusPosted s ∧
        t.frType = s.rxType ∧ t.frDest = s.rxDest ∧ t.frSrc = s.rxSrc ∧ t.frLen = s.rxLen

/-- 40_frame_codec.md R95: the octets of an encoded frame for this station or broadcast, received from Idle, post Valid
with the type, destination, source and data encoded. -/
def Obligations.EncodedFrameIsReceived : Prop :=
  ∀ (s : State) (t d src : Octet) (data : List Octet),
    s.rxState = .idle → s.rxBuf.wf = true → data.length ≤ 501 → (d = s.cfg.ts ∨ d = 255) →
    ∃ s' : State, receiveOctets (encodeFrame t d src data) s = .next s' ∧
      s'.rxState = .idle ∧ s'.rvf = true ∧ s'.rif = false ∧
      s'.frType = t ∧ s'.frDest = d ∧ s'.frSrc = src ∧ s'.frLen.toNat = data.length ∧
      s'.rxBuf.octets data.length = data ∧ (∀ a : Nat, data.length ≤ a → s'.rxBuf.read a = s.rxBuf.read a) ∧
      s'.tkState = s.tkState ∧ s'.events = s.events

/-- 41_receive_fsm.md R117: a stream with no 0x55 immediately followed by 0xFF never enters Header and never posts.
(Every beginning of such a stream is one, so this says it after every octet.) -/
def Obligations.NoPreambleNoFrame : Prop :=
  ∀ (os : List Octet) (s : State), s.rxState = .idle → NoPreamble os →
    ∃ s' : State, receiveOctets os s = .next s' ∧
      (s'.rxState = .idle ∨ (s'.rxState = .preamble ∧ os.getLast? = some 0x55)) ∧
      s'.rvf = s.rvf ∧ s'.rif = s.rif ∧ s'.status = s.status ∧
      s'.frType = s.frType ∧ s'.frDest = s.frDest ∧ s'.frSrc = s.frSrc ∧ s'.frLen = s.frLen

/-! ## The timers -/

/-- 43_timers.md R187. -/
def Obligations.TickAdvancesTimers : Prop :=
  ∀ s : State, exec .tick s =
    .next { s with
      silence := BitVec.ofNat 16 (min (s.silence.toNat + 1) 0xFFFF)
      replyTimer := BitVec.ofNat 16 (min (s.replyTimer.toNat + 1) 0xFFFF) }

/-- 43_timers.md R188: the events that clear `silence`, and no others. -/
def Obligations.SilenceClearedOnlyBy : Prop :=
  (∀ (i : Instr) (s t : State), exec i s = .next t →
    match i with
    | .rxByte _ | .rxError => t.silence = 0
    | .tick => t.silence = satInc16 s.silence
    | _ =>
      (t.silence = 0 ∧ ∃ ty d data octets, t.events = s.events ++ [.send ty d s.cfg.ts data octets]) ∨
      (t.silence = s.silence ∧ ∀ ty d src data octets, t.events ≠ s.events ++ [.send ty d src data octets])) ∧
  ∀ (s t : State) (cfg : Config) (rest : List Input), s.inputs = .reset cfg :: rest → step s = .next t → t.silence = 0

/-- 43_timers.md R189: the two events that clear `reply_timer`, the entry to AnswerDataRequest and reset. -/
def Obligations.ReplyTimerClearedOnlyBy : Prop :=
  (∀ (i : Instr) (s t : State), exec i s = .next t →
    (t.tkState = .answerDataRequest ∧ s.tkState ≠ .answerDataRequest → t.replyTimer = 0) ∧
    (¬(t.tkState = .answerDataRequest ∧ s.tkState ≠ .answerDataRequest) →
      t.replyTimer = if i = .tick then satInc16 s.replyTimer else s.replyTimer)) ∧
  ∀ (s t : State) (cfg : Config) (rest : List Input), s.inputs = .reset cfg :: rest → step s = .next t →
    t.replyTimer = 0

/-! ## The host interface -/

/-- 44_host_ops.md R198, R199: TX_QUEUE fills the slot with an acceptable descriptor, and otherwise is ignored. -/
def Obligations.TxQueueFillsOrIgnores : Prop :=
  ∀ (s : State) (d : Descriptor), s.txqData.wf = true → d.wf = true →
    let acceptable := s.txqValid = false ∧ (d.dType = 3 ∨ d.dType = 5 ∨ d.dType = 6 ∨ 128 ≤ d.dType.toNat) ∧
      d.dLen.toNat ≤ 501 ∧ ¬((d.dType = 3 ∨ d.dType = 5) ∧ d.dDest = 255)
    (acceptable → ∃ m : Memory,
      exec (.txQueue d) s =
        .next { s with
          txqType := d.dType, txqDest := d.dDest, txqLen := d.dLen, txqData := m, txqValid := true } ∧
      m.octets d.dLen.toNat = d.dData ∧ ∀ a : Nat, d.dLen.toNat ≤ a → m.read a = s.txqData.read a) ∧
    (¬acceptable → exec (.txQueue d) s = .next { s with status := s.status ||| 2#2 })

/-- 44_host_ops.md R200, R201: REPLY fills the slot with an acceptable descriptor, and otherwise is ignored. -/
def Obligations.ReplyFillsOrIgnores : Prop :=
  ∀ (s : State) (d : Descriptor), s.rplData.wf = true → d.wf = true →
    let acceptable := s.tkState = .answerDataRequest ∧ s.reqType = 5 ∧ s.rplValid = false ∧
      (d.dType = 6 ∨ 128 ≤ d.dType.toNat) ∧ d.dLen.toNat ≤ 501
    (acceptable → ∃ m : Memory,
      exec (.reply d) s =
        .next { s with rplType := d.dType, rplLen := d.dLen, rplData := m, rplValid := true } ∧
      m.octets d.dLen.toNat = d.dData ∧ ∀ a : Nat, d.dLen.toNat ≤ a → m.read a = s.rplData.read a) ∧
    (¬acceptable → exec (.reply d) s = .next { s with status := s.status ||| 2#2 })

/-- 44_host_ops.md R202, R203: reserved and malformed words set CMD_IGNORED and change nothing else; no command clears
the bit; and the one command that does nothing by design is RX_NONE in Idle. -/
def Obligations.UnusedWordsIgnored : Prop :=
  (∀ (s : State) (a : BitVec 12) (b : BitVec 15) (w : Word16),
    exec (.reservedOp7 a) s = .next { s with status := s.status ||| 2#2 } ∧
    exec (.reservedOp8F b) s = .next { s with status := s.status ||| 2#2 } ∧
    exec (.malformed w) s = .next { s with status := s.status ||| 2#2 }) ∧
  (∀ (i : Instr) (s t : State), exec i s = .next t → s.cmdIgnored = true → t.cmdIgnored = true) ∧
  ∀ s : State, s.rxState = .idle → exec .rxNone s = .next s

/-- 10_state.md R34: the two sticky bits. A command sets RX_OVERRUN exactly when a result is posted over a pending one
and CMD_IGNORED exactly when it is dropped, and clears neither; only reset does. -/
def Obligations.StatusRecordsLosses : Prop :=
  (∀ (i : Instr) (s t : State), exec i s = .next t →
    t.status = s.status |||
      (if ErrorCause.resultOverrun ∈ detectedCauses i s then 1#2 else 0#2) |||
      (if ErrorCause.commandIgnored ∈ detectedCauses i s then 2#2 else 0#2)) ∧
  (∀ (s t : State) (cfg : Config) (rest : List Input), s.inputs = .reset cfg :: rest → step s = .next t →
    t.status = 0)

/-! ## The token machine -/

/-- 42_token_fsm.md R131, with "entered only from reset": no command leads to Initialize. -/
def Obligations.InitializeAssigns : Prop :=
  (∀ s : State, s.tkState = .initial →
    exec .masterStep s =
      .next { s with
        ns := s.cfg.ts, ps := s.cfg.ts, tokenCount := s.cfg.nPoll, soleMaster := false
        rvf := false, rif := false, tkState := .idle }) ∧
  ∀ (i : Instr) (s t : State), exec i s = .next t → t.tkState = .initial → s.tkState = .initial

/-- 42_token_fsm.md R132, R133, R141: Idle where no frame is taken. -/
def Obligations.IdleWithoutFrame : Prop :=
  ∀ s : State, s.tkState = .idle →
    (s.cfg.tNoToken ≤ s.silence →
      exec .masterStep s = .next { s with eventCount := 0, tkState := .noToken }) ∧
    (s.silence < s.cfg.tNoToken → s.rif = true → exec .masterStep s = .next { s with rif := false }) ∧
    (s.silence < s.cfg.tNoToken → s.rif = false → s.rvf = false → exec .masterStep s = .next s)

/-- The table of 42_token_fsm.md R177 (which the spec marks as derived): where a MASTER_STEP clears `RVF` and where it
clears `RIF`; elsewhere a posted result stays pending. -/
def Obligations.DetectorsConsumedByTable : Prop :=
  ∀ s t : State, exec .masterStep s = .next t →
    let takesInvalid := s.rif = true ∧
      ((s.tkState = .idle ∧ s.silence < s.cfg.tNoToken) ∨ (s.tkState = .waitForReply ∧ s.silence < s.cfg.tReplyTimeout) ∨
        (s.tkState = .pollForMaster ∧ s.rvf = false))
    (s.tkState = .initial → t.rvf = false ∧ t.rif = false) ∧
    (IdleTakes s ∨ WaitTakes s ∨ PollTakes s → t.rvf = false) ∧
    (takesInvalid → t.rif = false) ∧
    (s.tkState ≠ .initial → ¬(IdleTakes s ∨ WaitTakes s ∨ PollTakes s) → t.rvf = s.rvf) ∧
    (s.tkState ≠ .initial → ¬takesInvalid → t.rif = s.rif)

/-- A frame-type row does exactly what a MASTER_STEP does that takes a posted frame of that type, from every state that
takes one; elsewhere it changes nothing, the frame staying pending. That a row means this is the model's choice (log
entry 6). -/
def Obligations.FrameRowActsAsMasterStep : Prop :=
  ∀ (s : State) (ty : Octet), s.frLen.toNat ≤ 501 →
    ((IdleTakes s ∨ WaitTakes s ∨ PollTakes s) →
      ∃ u : State, exec .masterStep { s with frType := ty } = .next u ∧
        exec (frameInstr ty) s = .next { u with frType := s.frType }) ∧
    (¬(IdleTakes s ∨ WaitTakes s ∨ PollTakes s) → exec (frameInstr ty) s = .next s)

/-- The thirteen frame-type rows in Idle, for a directed frame, with the next state each answers. That a row means this
is the model's choice (log entry 6); the effects are those of 42_token_fsm.md section 3. -/
def Obligations.DirectedFrameRowsInIdle : Prop :=
  ∀ s : State, IdleTakes s → s.frDest = s.cfg.ts → s.frLen.toNat ≤ 501 →
    let taken : State := { s with rvf := false }
    exec .ftToken s = .next { taken with frameCount := 0, soleMaster := false, tkState := .useToken } ∧
    exec .ftPfm s = .next { taken with silence := 0, events := sent s 2 s.frSrc [] } ∧
    exec .ftRpfm s = .next taken ∧
    exec .ftTreq s =
      .next { taken with replyTimer := 0, reqSrc := s.frSrc, reqType := 3, tkState := .answerDataRequest } ∧
    exec .ftTrsp s = .next { taken with events := indicated s 4 } ∧
    exec .ftDer s =
      .next { taken with
        replyTimer := 0, reqSrc := s.frSrc, reqType := 5, tkState := .answerDataRequest, events := indicated s 5 } ∧
    exec .ftDner s = .next { taken with events := indicated s 6 } ∧
    exec .ftRp s = .next taken ∧
    (∀ k, exec (.ftReserved08 k) s = .next taken) ∧
    (∀ k, exec (.ftReserved10 k) s = .next taken) ∧
    (∀ k, exec (.ftReserved20 k) s = .next taken) ∧
    (∀ k, exec (.ftReserved40 k) s = .next taken) ∧
    (∀ k : BitVec 7, exec (.ftProprietary k) s =
      .next { taken with events := indicated s (BitVec.ofNat 8 (128 + k.toNat)) })

/-- 42_token_fsm.md R135. -/
def Obligations.DirectedTokenMakesHolder : Prop :=
  ∀ s : State, IdleTakes s → s.frDest = s.cfg.ts → s.frType = 0 →
    exec .masterStep s =
      .next { s with rvf := false, frameCount := 0, soleMaster := false, tkState := .useToken }

/-- 42_token_fsm.md R136. -/
def Obligations.DirectedPollAnswered : Prop :=
  ∀ s : State, IdleTakes s → s.frDest = s.cfg.ts → s.frType = 1 →
    exec .masterStep s = .next { s with rvf := false, silence := 0, events := sent s 2 s.frSrc [] }

/-- 42_token_fsm.md R137. -/
def Obligations.DirectedRequestOpensAnswer : Prop :=
  ∀ s : State, IdleTakes s → s.frDest = s.cfg.ts → s.frLen.toNat ≤ 501 →
    (s.frType = 3 → exec .masterStep s =
      .next { s with
        rvf := false, replyTimer := 0, reqSrc := s.frSrc, reqType := 3, tkState := .answerDataRequest }) ∧
    (s.frType = 5 → exec .masterStep s =
      .next { s with
        rvf := false, replyTimer := 0, reqSrc := s.frSrc, reqType := 5, tkState := .answerDataRequest
        events := indicated s 5 })

/-- 42_token_fsm.md R138. -/
def Obligations.DirectedFrameDelivered : Prop :=
  ∀ s : State, IdleTakes s → s.frDest = s.cfg.ts → s.frLen.toNat ≤ 501 →
    (s.frType = 4 ∨ s.frType = 6 ∨ 128 ≤ s.frType.toNat) →
    exec .masterStep s = .next { s with rvf := false, events := indicated s s.frType }

/-- 42_token_fsm.md R139. -/
def Obligations.DirectedFrameDiscarded : Prop :=
  ∀ s : State, IdleTakes s → s.frDest = s.cfg.ts →
    (s.frType = 2 ∨ s.frType = 7 ∨ (8 ≤ s.frType.toNat ∧ s.frType.toNat ≤ 127)) →
    exec .masterStep s = .next { s with rvf := false }

/-- 42_token_fsm.md R140. `TS` is never 255 (00_scope.md R6 (a), (b)). -/
def Obligations.BroadcastFrameInIdle : Prop :=
  ∀ s : State, IdleTakes s → s.frDest = 255 → s.cfg.ts ≠ 255 → s.frLen.toNat ≤ 501 →
    (s.frType = 4 ∨ s.frType = 6 ∨ 128 ≤ s.frType.toNat →
      exec .masterStep s = .next { s with rvf := false, events := indicated s s.frType }) ∧
    (¬(s.frType = 4 ∨ s.frType = 6 ∨ 128 ≤ s.frType.toNat) →
      exec .masterStep s = .next { s with rvf := false })

/-- 42_token_fsm.md R147 to R149: a valid frame in WaitForReply. The premise on `wait_type` is R176 (f). -/
def Obligations.FrameWhileWaiting : Prop :=
  ∀ s : State, WaitTakes s → (s.waitType = 3 ∨ s.waitType = 5) → s.frLen.toNat ≤ 501 →
    let expected : Octet := if s.waitType = 3 then 4 else 6
    (s.frDest = s.cfg.ts ∧ s.frType = expected →
      exec .masterStep s =
        .next { s with rvf := false, tkState := .doneWithToken, events := indicated s s.frType }) ∧
    (s.frDest = s.cfg.ts ∧ s.frType = 7 →
      exec .masterStep s = .next { s with rvf := false, tkState := .doneWithToken }) ∧
    (¬(s.frDest = s.cfg.ts ∧ (s.frType = expected ∨ s.frType = 7)) →
      exec .masterStep s = .next { s with rvf := false, tkState := .idle })

/-- 42_token_fsm.md R165, R166: a valid frame in PollForMaster. -/
def Obligations.FrameWhilePolling : Prop :=
  ∀ s : State, PollTakes s →
    (s.frDest = s.cfg.ts ∧ s.frType = 2 →
      exec .masterStep s =
        .next { s with
          rvf := false, ns := s.frSrc, ps := s.cfg.ts, tokenCount := 0, retryCount := 0, eventCount := 0
          soleMaster := false, tkState := .passToken, silence := 0, events := sent s 0 s.frSrc [] }) ∧
    (¬(s.frDest = s.cfg.ts ∧ s.frType = 2) →
      exec .masterStep s = .next { s with rvf := false, tkState := .idle })

/-- 42_token_fsm.md R142 to R144, in every state. That a queued type other than 3, 5, 6 and 128..255, which R144 does not
name, is sent as 6 is, and that `frame_count` wraps when advanced from 255, is the model's choice in states no run
reaches (log entry 17). -/
def Obligations.UseTokenBranches : Prop :=
  ∀ s : State, s.tkState = .useToken → s.txqLen.toNat ≤ 501 →
    let data := s.txqData.octets s.txqLen.toNat
    (s.txqValid = false →
      exec .masterStep s = .next { s with frameCount := s.cfg.nMaxInfoFrames, tkState := .doneWithToken }) ∧
    (s.txqValid = true → (s.txqType = 3 ∨ s.txqType = 5) →
      exec .masterStep s =
        .next { s with
          txqValid := false, frameCount := s.frameCount + 1, waitType := s.txqType, tkState := .waitForReply
          silence := 0, events := sent s s.txqType s.txqDest data }) ∧
    (s.txqValid = true → ¬(s.txqType = 3 ∨ s.txqType = 5) →
      exec .masterStep s =
        .next { s with
          txqValid := false, frameCount := s.frameCount + 1, tkState := .doneWithToken
          silence := 0, events := sent s s.txqType s.txqDest data })

/-- 42_token_fsm.md R145, R146, R150: WaitForReply where no frame is taken. -/
def Obligations.WaitForReplyWithoutFrame : Prop :=
  ∀ s : State, s.tkState = .waitForReply →
    (s.cfg.tReplyTimeout ≤ s.silence →
      exec .masterStep s = .next { s with frameCount := s.cfg.nMaxInfoFrames, tkState := .doneWithToken }) ∧
    (s.silence < s.cfg.tReplyTimeout → s.rif = true →
      exec .masterStep s = .next { s with rif := false, tkState := .doneWithToken }) ∧
    (s.silence < s.cfg.tReplyTimeout → s.rif = false → s.rvf = false → exec .masterStep s = .next s)

/-- 42_token_fsm.md R151 to R157: the branches of DoneWithToken, by the case split of R157. -/
def Obligations.DoneWithTokenBranches : Prop :=
  ∀ s : State, s.tkState = .doneWithToken →
    (s.frameCount < s.cfg.nMaxInfoFrames → exec .masterStep s = .next { s with tkState := .useToken }) ∧
    (s.cfg.nMaxInfoFrames ≤ s.frameCount → s.tokenCount < s.cfg.nPoll → s.soleMaster = true →
      exec .masterStep s =
        .next { s with tokenCount := satInc8 s.tokenCount, frameCount := 0, tkState := .useToken }) ∧
    (s.cfg.nMaxInfoFrames ≤ s.frameCount →
      ((s.tokenCount < s.cfg.nPoll ∧ s.soleMaster = false) ∨
        (s.cfg.nPoll ≤ s.tokenCount ∧ s.ns = nextOf s s.cfg.ts)) →
      exec .masterStep s =
        .next { s with
          tokenCount := satInc8 s.tokenCount, retryCount := 0, eventCount := 0, tkState := .passToken
          silence := 0, events := sent s 0 s.ns [] }) ∧
    (s.cfg.nMaxInfoFrames ≤ s.frameCount → s.cfg.nPoll ≤ s.tokenCount → s.ns ≠ nextOf s s.cfg.ts →
      nextOf s s.ps ≠ s.ns →
      exec .masterStep s =
        .next { s with
          ps := nextOf s s.ps, retryCount := 0, tkState := .pollForMaster
          silence := 0, events := sent s 1 (nextOf s s.ps) [] }) ∧
    (s.cfg.nMaxInfoFrames ≤ s.frameCount → s.cfg.nPoll ≤ s.tokenCount → s.ns ≠ nextOf s s.cfg.ts →
      nextOf s s.ps = s.ns → s.soleMaster = false →
      exec .masterStep s =
        .next { s with
          ps := s.cfg.ts, retryCount := 0, tokenCount := 0, eventCount := 0, tkState := .passToken
          silence := 0, events := sent s 0 s.ns [] }) ∧
    (s.cfg.nMaxInfoFrames ≤ s.frameCount → s.cfg.nPoll ≤ s.tokenCount → s.ns ≠ nextOf s s.cfg.ts →
      nextOf s s.ps = s.ns → s.soleMaster = true →
      exec .masterStep s =
        .next { s with
          ps := nextOf s s.ns, ns := s.cfg.ts, retryCount := 0, tokenCount := 0, eventCount := 0
          tkState := .pollForMaster, silence := 0, events := sent s 1 (nextOf s s.ns) [] })

/-- 42_token_fsm.md R158 to R161. -/
def Obligations.PassTokenBranches : Prop :=
  ∀ s : State, s.tkState = .passToken →
    (s.silence < s.cfg.tUsageTimeout → s.cfg.nMinOctets < s.eventCount →
      exec .masterStep s = .next { s with tkState := .idle }) ∧
    (s.cfg.tUsageTimeout ≤ s.silence → s.retryCount < s.cfg.nRetryToken →
      exec .masterStep s =
        .next { s with
          retryCount := s.retryCount + 1, eventCount := 0, silence := 0, events := sent s 0 s.ns [] }) ∧
    (s.cfg.tUsageTimeout ≤ s.silence → s.cfg.nRetryToken ≤ s.retryCount →
      exec .masterStep s =
        .next { s with
          ps := nextOf s s.ns, ns := s.cfg.ts, retryCount := 0, tokenCount := 0, eventCount := 0
          tkState := .pollForMaster, silence := 0, events := sent s 1 (nextOf s s.ns) [] }) ∧
    (s.silence < s.cfg.tUsageTimeout → s.eventCount ≤ s.cfg.nMinOctets → exec .masterStep s = .next s)

/-- 42_token_fsm.md R162 to R164. -/
def Obligations.NoTokenBranches : Prop :=
  ∀ s : State, s.tkState = .noToken →
    let slot := s.cfg.tNoToken.toNat + s.cfg.tSlot.toNat * s.cfg.ts.toNat
    (s.cfg.nMinOctets < s.eventCount → exec .masterStep s = .next { s with tkState := .idle }) ∧
    (s.eventCount ≤ s.cfg.nMinOctets → slot ≤ s.silence.toNat →
      exec .masterStep s =
        .next { s with
          ps := nextOf s s.cfg.ts, ns := s.cfg.ts, tokenCount := 0, retryCount := 0, eventCount := 0
          tkState := .pollForMaster, silence := 0, events := sent s 1 (nextOf s s.cfg.ts) [] }) ∧
    (s.eventCount ≤ s.cfg.nMinOctets → s.silence.toNat < slot → exec .masterStep s = .next s)

/-- 42_token_fsm.md R167 to R171: PollForMaster where no valid frame is posted. -/
def Obligations.PollForMasterUnanswered : Prop :=
  ∀ s : State, s.tkState = .pollForMaster → s.rvf = false →
    let timeout := s.cfg.tUsageTimeout ≤ s.silence ∨ s.rif = true
    (timeout → s.soleMaster = true →
      exec .masterStep s = .next { s with rif := false, frameCount := 0, tkState := .useToken }) ∧
    (timeout → s.soleMaster = false → s.ns ≠ s.cfg.ts →
      exec .masterStep s =
        .next { s with
          rif := false, retryCount := 0, eventCount := 0, tkState := .passToken
          silence := 0, events := sent s 0 s.ns [] }) ∧
    (timeout → s.soleMaster = false → s.ns = s.cfg.ts → nextOf s s.ps ≠ s.cfg.ts →
      exec .masterStep s =
        .next { s with
          rif := false, ps := nextOf s s.ps, retryCount := 0
          silence := 0, events := sent s 1 (nextOf s s.ps) [] }) ∧
    (timeout → s.soleMaster = false → s.ns = s.cfg.ts → nextOf s s.ps = s.cfg.ts →
      exec .masterStep s =
        .next { s with rif := false, soleMaster := true, frameCount := 0, tkState := .useToken }) ∧
    (¬timeout → exec .masterStep s = .next s)

/-- 42_token_fsm.md R172 to R175. -/
def Obligations.AnswerDataRequestBranches : Prop :=
  ∀ s : State, s.tkState = .answerDataRequest → (s.reqType = 3 ∨ s.reqType = 5) → BufferBounds s →
    (s.reqType = 3 → s.replyTimer < s.cfg.tReplyDelay →
      exec .masterStep s =
        .next { s with
          tkState := .idle, silence := 0
          events := sent s 4 s.reqSrc (s.rxBuf.octets s.frLen.toNat) }) ∧
    (s.reqType = 5 → s.rplValid = true → s.replyTimer < s.cfg.tReplyDelay →
      exec .masterStep s =
        .next { s with
          rplValid := false, tkState := .idle, silence := 0
          events := sent s s.rplType s.reqSrc (s.rplData.octets s.rplLen.toNat) }) ∧
    (s.cfg.tReplyDelay ≤ s.replyTimer →
      exec .masterStep s =
        .next { s with rplValid := false, tkState := .idle, silence := 0, events := sent s 7 s.reqSrc [] }) ∧
    (s.reqType = 5 → s.rplValid = false → s.replyTimer < s.cfg.tReplyDelay → exec .masterStep s = .next s)

/-- 42_token_fsm.md R178: the values 9 to 15 of `tk_state`. MASTER_STEP changes nothing there, no command leads there
from elsewhere, and reset leaves them. -/
def Obligations.UnusedTokenStatesStay : Prop :=
  (∀ (s : State) (k : Fin 7), s.tkState = .unused k → exec .masterStep s = .next s) ∧
  (∀ (i : Instr) (s t : State) (k : Fin 7), exec i s = .next t → t.tkState = .unused k → s.tkState = .unused k) ∧
  (∀ (s : State) (cfg : Config) (rest : List Input) (t : State), s.inputs = .reset cfg :: rest → step s = .next t →
    t.tkState = .initial)

/-- 42_token_fsm.md R127: a MASTER_STEP (and so a frame's instruction) emits at most one event; no other command emits
any. Every frame sent carries `TS` as its source and is encoded as R128 says. -/
def Obligations.AtMostOneEvent : Prop :=
  ∀ (i : Instr) (s t : State), exec i s = .next t →
    t.events = s.events ∨
    ((i = .masterStep ∨ ∃ ty, i = frameInstr ty) ∧
      ((∃ ty d data, t.events = sent s ty d data) ∨ (∃ ty, t.events = indicated s ty)))

/-- 10_state.md R35: what MASTER_STEP, and so a frame's instruction, never writes. -/
def Obligations.TokenMachineFrame : Prop :=
  ∀ (i : Instr) (s t : State), (i = .masterStep ∨ ∃ ty, i = frameInstr ty) → exec i s = .next t →
    t.cfg = s.cfg ∧ t.rxState = s.rxState ∧ t.rxIndex = s.rxIndex ∧ t.rxHcrc = s.rxHcrc ∧ t.rxDcrc = s.rxDcrc ∧
    t.rxType = s.rxType ∧ t.rxDest = s.rxDest ∧ t.rxSrc = s.rxSrc ∧ t.rxLen = s.rxLen ∧
    (∀ a, t.rxBuf.read a = s.rxBuf.read a) ∧ t.frType = s.frType ∧ t.frDest = s.frDest ∧ t.frSrc = s.frSrc ∧
    t.frLen = s.frLen ∧ t.txqType = s.txqType ∧ t.txqDest = s.txqDest ∧ t.txqLen = s.txqLen ∧
    (∀ a, t.txqData.read a = s.txqData.read a) ∧ t.rplType = s.rplType ∧ t.rplLen = s.rplLen ∧
    (∀ a, t.rplData.read a = s.rplData.read a) ∧ t.status = s.status ∧ t.inputs = s.inputs ∧
    (t.rvf = true → s.rvf = true) ∧ (t.rif = true → s.rif = true) ∧
    (t.txqValid = true → s.txqValid = true) ∧ (t.rplValid = true → s.rplValid = true)

/-- 10_state.md R26: what sets and what clears `sole_master`. -/
def Obligations.SoleMasterSetOnlyByR170 : Prop :=
  ∀ (i : Instr) (s t : State), exec i s = .next t →
    (s.soleMaster = false → t.soleMaster = true →
      i = .masterStep ∧ s.tkState = .pollForMaster ∧ s.rvf = false ∧ s.ns = s.cfg.ts ∧ nextOf s s.ps = s.cfg.ts ∧
        (s.cfg.tUsageTimeout ≤ s.silence ∨ s.rif = true)) ∧
    (s.soleMaster = true → t.soleMaster = false →
      s.tkState = .initial ∨ (IdleTakes s ∧ s.frDest = s.cfg.ts ∧ t.tkState = .useToken) ∨
        (PollTakes s ∧ s.frDest = s.cfg.ts ∧ t.tkState = .passToken))

/-- 10_state.md R16: reset release samples the configuration, and nothing else writes it. -/
def Obligations.ConfigFixedBetweenResets : Prop :=
  (∀ (i : Instr) (s t : State), exec i s = .next t → t.cfg = s.cfg) ∧
  (∀ (s t : State) (cfg : Config) (rest : List Input), s.inputs = .reset cfg :: rest → step s = .next t →
    t.cfg = cfg) ∧
  (∀ s t : State, step s = .next t → t.cfg ≠ s.cfg → ∃ rest, s.inputs = .reset t.cfg :: rest)

/-! ## Reset, the step and the invariant -/

/-- 70_reset_and_hazards.md R237: RESET, from every state, gives every register its reset value (and R236, R240: it emits
no event, and an illegal configuration is refused). That RESET stands in the input list is the model's choice (log
entry 4). -/
def Obligations.ResetFromEveryState : Prop :=
  ∀ (s : State) (cfg : Config) (rest : List Input), s.inputs = .reset cfg :: rest →
    (configLegal cfg = true → ∃ t : State, step s = .next t ∧ t.cfg = cfg ∧ t.events = s.events ∧
      t.rxState = .idle ∧ t.rxIndex = 0 ∧ t.rxHcrc = 0xFF ∧ t.rxDcrc = 0xFFFF ∧ t.rxType = 0 ∧ t.rxDest = 0 ∧
      t.rxSrc = 0 ∧ t.rxLen = 0 ∧ (∀ a, t.rxBuf.read a = 0) ∧ t.frType = 0 ∧ t.frDest = 0 ∧ t.frSrc = 0 ∧
      t.frLen = 0 ∧ t.rvf = false ∧ t.rif = false ∧ t.tkState = .initial ∧ t.ns = 0 ∧ t.ps = 0 ∧
      t.soleMaster = false ∧ t.tokenCount = 0 ∧ t.frameCount = 0 ∧ t.retryCount = 0 ∧ t.eventCount = 0 ∧
      t.reqSrc = 0 ∧ t.reqType = 0 ∧ t.waitType = 0 ∧ t.silence = 0 ∧ t.replyTimer = 0 ∧ t.txqValid = false ∧
      t.txqType = 0 ∧ t.txqDest = 0 ∧ t.txqLen = 0 ∧ (∀ a, t.txqData.read a = 0) ∧ t.rplValid = false ∧
      t.rplType = 0 ∧ t.rplLen = 0 ∧ (∀ a, t.rplData.read a = 0) ∧ t.status = 0) ∧
    (configLegal cfg = false → step s = .refused .illegalConfig)

/-- A step takes the next command off the stream and runs the instruction it decodes to: the command word's, but for a
MASTER_STEP that takes a posted frame the frame's (log entry 6), which has the same effect. Without an input nothing
changes. -/
def Obligations.StepRunsDecodedInstruction : Prop :=
  (∀ (s : State) (c : Command) (rest : List Input) (i : Instr),
    s.inputs = .command c :: rest → configLegal s.cfg = true → decode (fetchCode c s) = .ok i →
    step s = exec i { s with inputs := rest }) ∧
  (∀ (s : State) (c : Command) (rest : List Input) (i : Instr),
    s.inputs = .command c :: rest → configLegal s.cfg = true → decode (.command c) = .ok i →
    step s = exec i { s with inputs := rest }) ∧
  (∀ s : State, s.inputs = [] → step s = .next s)

/-- 60_exceptions.md R229, R230 (a), (b), (d): a command at node `i` of a bus, or a step of it on its own stream, leaves
node `i` as that alone leaves it (it does not hear itself), and every other node hears the octets sent, whole and in
order. A node is reset alone, and a node starts with its own configuration and stream beside the others. That a TICK in
a node's stream waits until it is applied to all is the model's choice (log entry 15). -/
def Obligations.BusDeliversToTheOthers : Prop :=
  ∀ (b b' : Bus) (i : Nat) (s : State), b[i]? = some s →
    (∀ c, busCommand i c b = .next b' → Delivers i s (runCommand c s) b b') ∧
    (nextIsTick s = false → busStep i b = .next b' → Delivers i s (step s) b b') ∧
    (nextIsTick s = true → b.all awaitsTick = true → busStep i b = .next b' →
      b'.length = b.length ∧
      ∀ (j : Nat) (u : State), b[j]? = some u →
        ∃ u', exec .tick { u with inputs := u.inputs.tail } = .next u' ∧ b'[j]? = some u') ∧
    (nextIsTick s = true → b.all awaitsTick = false → busStep i b = .next b) ∧
    (∀ cfg, configLegal cfg = true →
      busReset i cfg b =
        .next (b.set i { State.resetWith cfg with inputs := s.inputs, events := s.events })) ∧
    (∀ cfg stream, configLegal cfg = true →
      busStart cfg stream b = .next (b ++ [{ State.resetWith cfg with inputs := stream }]))

/-- The invariant holds right after a reset with any legal configuration. -/
def Obligations.InvariantHoldsAtReset : Prop :=
  Inv State.reset ∧ ∀ cfg : Config, configLegal cfg = true → Inv (State.resetWith cfg)

/-- 42_token_fsm.md R176 (with the register ranges of 10_state.md R17): every step keeps the invariant, from every state
that has it, whatever the host presents. -/
def Obligations.InvariantKeptByEveryStep : Prop :=
  ∀ s t : State, Inv s → step s = .next t → Inv t

/-- 60_exceptions.md R218: from every state that has the invariant, every instruction completes. -/
def Obligations.EveryCommandCompletes : Prop :=
  ∀ (i : Instr) (s : State), Inv s → ∃ t, exec i s = .next t
end

