-- ==== Sys2Proof/Laws/Bus.lean ====
section
/-! SUPPORT. What each bus operation does to every node, said once. -/

namespace Sys2Proof.Machine

/-- Where the whole goes on, its first part did. -/
theorem busThen_next {α : Type} {o : Host.Outcome α Fault Refusal} {k : α → Host.Outcome Bus Fault Refusal} {b : Bus}
    (h : busThen o k = .next b) : ∃ a, o = .next a ∧ k a = .next b := by
  unfold busThen at h
  cases o <;> simp at h ⊢
  exact h

/-- What is applied to every node leaves each as it leaves that node alone. -/
theorem onEvery_next {f : State → Host.Outcome State Fault Refusal} {b b' : Bus} (h : onEvery f b = .next b') :
    b'.length = b.length ∧ ∀ (j : Nat) (u : State), b[j]? = some u → ∃ u', f u = .next u' ∧ b'[j]? = some u' := by
  induction b generalizing b' with
  | nil => simp [onEvery] at h; subst h; simp
  | cons s b ih =>
    simp only [onEvery] at h
    obtain ⟨s', h1, h⟩ := busThen_next h
    obtain ⟨b1, h2, h⟩ := busThen_next h
    cases h
    obtain ⟨l, ih⟩ := ih h2
    refine ⟨by simp [l], fun j u hj => ?_⟩
    cases j with
    | zero => simp at hj; subst hj; exact ⟨s', h1, by simp⟩
    | succ j => simp at hj; simpa using ih j u hj

/-- What the other nodes hear, and that the sender hears nothing (60_exceptions.md R230 (a), (b)). -/
theorem hearBut_next {i : Nat} {os : List Octet} {b b' : Bus} (h : hearBut i os b = .next b') :
    b'.length = b.length ∧ b'[i]? = b[i]? ∧
      ∀ (j : Nat) (u : State), j ≠ i → b[j]? = some u → ∃ u', feedOctets os u = .next u' ∧ b'[j]? = some u' := by
  induction b generalizing i b' with
  | nil => cases i <;> simp [hearBut] at h <;> subst h <;> simp
  | cons s b ih =>
    cases i with
    | zero =>
      simp only [hearBut] at h
      obtain ⟨b1, h2, h⟩ := busThen_next h
      cases h
      obtain ⟨l, r⟩ := onEvery_next h2
      refine ⟨by simp [l], by simp, fun j u hj hu => ?_⟩
      cases j with
      | zero => exact absurd rfl hj
      | succ j => simp at hu; simpa using r j u hu
    | succ i =>
      simp only [hearBut] at h
      obtain ⟨s', h1, h⟩ := busThen_next h
      obtain ⟨b1, h2, h⟩ := busThen_next h
      cases h
      obtain ⟨l, e, r⟩ := ih h2
      refine ⟨by simp [l], by simpa using e, fun j u hj hu => ?_⟩
      cases j with
      | zero => simp at hu; subst hu; exact ⟨s', h1, by simp⟩
      | succ j => simp at hu; simpa using r j u (by omega) hu

/-- Nothing sent is nothing heard. -/
theorem onEvery_feed_nil (b : Bus) : onEvery (feedOctets []) b = .next b := by
  induction b with
  | nil => rfl
  | cons s b ih => rw [onEvery, ih]; rfl

theorem hearBut_nil (i : Nat) (b : Bus) : hearBut i [] b = .next b := by
  induction b generalizing i with
  | nil => cases i <;> rfl
  | cons s b ih =>
    cases i with
    | zero => rw [hearBut, onEvery_feed_nil]; rfl
    | succ i => rw [hearBut, ih]; rfl

/-- What node `i` does is done by that node alone, and heard by all the others (60_exceptions.md R230 (a), (b)). -/
theorem busApply_next {i : Nat} {f : State → Host.Outcome State Fault Refusal} {b b' : Bus} {s : State}
    (hs : b[i]? = some s) (h : busApply i f b = .next b') :
    ∃ s', f s = .next s' ∧ b'.length = b.length ∧ b'[i]? = some s' ∧
      ∀ j u, j ≠ i → b[j]? = some u → ∃ u', feedOctets (sentOctets s s') u = .next u' ∧ b'[j]? = some u' := by
  simp only [busApply, hs] at h
  obtain ⟨s', h1, h⟩ := busThen_next h
  obtain ⟨l, e, r⟩ := hearBut_next h
  have hi : i < b.length := (List.getElem?_eq_some_iff.1 hs).1
  refine ⟨s', h1, by simpa using l, by simp [e, hi], fun j u hj hu => r j u hj ?_⟩
  rw [List.getElem?_set_ne (Ne.symm hj)]
  exact hu

/-- A node that emits nothing changes no other node. -/
theorem busApply_of_silent {i : Nat} {f : State → Host.Outcome State Fault Refusal} {b : Bus} {s s' : State}
    (hs : b[i]? = some s) (h : f s = .next s') (he : s'.events = s.events) :
    busApply i f b = .next (b.set i s') := by
  have ho : sentOctets s s' = [] := by simp [sentOctets, he]
  simp [busApply, hs, h, busThen, ho, hearBut_nil]

end Sys2Proof.Machine
end

