-- ==== Sys2Proof/Laws/Codec.lean ====
section
/-! SUPPORT. The laws of the checksum folds, of the encoder's lengths and of receiving a stream piece by piece. -/

namespace Sys2Proof.Machine

@[simp] theorem hFold_nil (acc : Octet) : hFold acc [] = acc := rfl

@[simp] theorem hFold_cons (acc b : Octet) (bs : List Octet) : hFold acc (b :: bs) = hFold (hUpdate b acc) bs := rfl

@[simp] theorem dFold_nil (acc : Word16) : dFold acc [] = acc := rfl

@[simp] theorem dFold_cons (acc : Word16) (b : Octet) (bs : List Octet) :
    dFold acc (b :: bs) = dFold (dUpdate b acc) bs := rfl

theorem hFold_append (acc : Octet) (as bs : List Octet) : hFold acc (as ++ bs) = hFold (hFold acc as) bs := by
  induction as generalizing acc with
  | nil => rfl
  | cons a as ih => exact ih _

theorem dFold_append (acc : Word16) (as bs : List Octet) : dFold acc (as ++ bs) = dFold (dFold acc as) bs := by
  induction as generalizing acc with
  | nil => rfl
  | cons a as ih => exact ih _

/-- A frame without payload is eight octets long (40_frame_codec.md R91). -/
theorem encodeFrame_length_empty (t d s : Octet) : (encodeFrame t d s []).length = 8 := rfl

/-- A frame with a payload is ten octets longer than it (40_frame_codec.md R91). -/
theorem encodeFrame_length {t d s : Octet} {data : List Octet} (h : data ≠ []) :
    (encodeFrame t d s data).length = data.length + 10 := by
  cases data with
  | nil => exact absurd rfl h
  | cons b bs => simp [encodeFrame, encodeData]

/-- Two octets joined, as a number. -/
theorem toNat_join (a b : Octet) : (a ++ b : Word16).toNat = a.toNat * 256 + b.toNat := by
  rw [BitVec.toNat_append, Nat.shiftLeft_eq, Nat.mul_comm, ← Nat.two_pow_add_eq_or_of_lt b.isLt]

@[simp] theorem andThen_next (s : State) (k : State → Host.Outcome State Fault Refusal) :
    andThen (.next s) k = k s := rfl

@[simp] theorem receiveOctets_nil (s : State) : receiveOctets [] s = .next s := rfl

theorem receiveOctets_cons (o : Octet) (os : List Octet) (s : State) :
    receiveOctets (o :: os) s = andThen (exec (.rxByte o) s) (receiveOctets os) := rfl

/-- A stream is received piece by piece. -/
theorem receiveOctets_append (as bs : List Octet) (s : State) :
    receiveOctets (as ++ bs) s = andThen (receiveOctets as s) (receiveOctets bs) := by
  induction as generalizing s with
  | nil => rfl
  | cons a as ih =>
    simp only [List.cons_append, receiveOctets_cons]
    cases exec (.rxByte a) s with
    | next t => exact ih t
    | fault r => rfl
    | refused r => rfl

end Sys2Proof.Machine
end

