-- ==== Sys2Proof/Laws/Memory.lean ====
section
/-! SUPPORT. The laws of the buffers: reading after writing, and the canonical form kept by every operation. -/

namespace Sys2Proof.Machine

theorem Memory.wfFrom_cons {lo a : Nat} {b : Octet} {m : Memory} :
    Memory.wfFrom lo ((a, b) :: m) = true ↔
      lo ≤ a ∧ a < nMaxData ∧ b ≠ unlistedOctet ∧ Memory.wfFrom (a + 1) m = true := by
  simp [Memory.wfFrom, and_assoc]

/-- A canonical form from a higher index on is one from a lower index on. -/
theorem Memory.wfFrom_mono {lo lo' : Nat} {m : Memory} (h : lo' ≤ lo) (hm : Memory.wfFrom lo m = true) :
    Memory.wfFrom lo' m = true := by
  cases m with
  | nil => rfl
  | cons e m =>
    obtain ⟨a, b⟩ := e
    rw [Memory.wfFrom_cons] at hm ⊢
    exact ⟨h.trans hm.1, hm.2⟩

/-- Nothing is listed below the index a canonical form starts from. -/
theorem Memory.read_below {lo i : Nat} {m : Memory} (hm : Memory.wfFrom lo m = true) (h : i < lo) :
    Memory.read m i = unlistedOctet := by
  induction m generalizing lo with
  | nil => rfl
  | cons e m ih =>
    obtain ⟨a, b⟩ := e
    rw [Memory.wfFrom_cons] at hm
    have : a ≠ i := by omega
    simp only [Memory.read, if_neg this]
    exact ih hm.2.2.2 (by omega)

theorem Memory.listed_wf {lo i : Nat} {v : Octet} {m : Memory} (h : lo ≤ i) (hi : i < nMaxData)
    (hm : Memory.wfFrom (i + 1) m = true) : Memory.wfFrom lo (Memory.listed i v m) = true := by
  unfold Memory.listed
  split
  · exact Memory.wfFrom_mono (by omega) hm
  · rw [Memory.wfFrom_cons]; exact ⟨h, hi, ‹_›, hm⟩

/-- A write keeps the canonical form. -/
theorem Memory.write_wfFrom {lo i : Nat} {v : Octet} {m : Memory} (h : lo ≤ i) (hi : i < nMaxData)
    (hm : Memory.wfFrom lo m = true) : Memory.wfFrom lo (Memory.write m i v) = true := by
  induction m generalizing lo with
  | nil => exact Memory.listed_wf h hi rfl
  | cons e m ih =>
    obtain ⟨a, b⟩ := e
    rw [Memory.wfFrom_cons] at hm
    simp only [Memory.write]
    split
    · exact Memory.listed_wf h hi (Memory.wfFrom_cons.2 ⟨by omega, hm.2⟩)
    · split
      · subst ‹i = a›; exact Memory.listed_wf h hi hm.2.2.2
      · exact Memory.wfFrom_cons.2 ⟨hm.1, hm.2.1, hm.2.2.1, ih (by omega) hm.2.2.2⟩

theorem Memory.write_wf {i : Nat} {v : Octet} {m : Memory} (hi : i < nMaxData) (hm : m.wf = true) :
    (m.write i v).wf = true := Memory.write_wfFrom (Nat.zero_le i) hi hm

theorem Memory.read_listed_same {lo i : Nat} {v : Octet} {m : Memory} (hm : Memory.wfFrom lo m = true) (h : i < lo) :
    Memory.read (Memory.listed i v m) i = v := by
  unfold Memory.listed
  split
  · subst ‹v = unlistedOctet›; exact Memory.read_below hm h
  · simp [Memory.read]

theorem Memory.read_listed_other {i j : Nat} {v : Octet} {m : Memory} (h : j ≠ i) :
    Memory.read (Memory.listed i v m) j = Memory.read m j := by
  unfold Memory.listed
  split
  · rfl
  · simp [Memory.read, h.symm]

/-- A read of the index just written gives the octet written. -/
theorem Memory.read_write_same {lo i : Nat} {v : Octet} {m : Memory} (hm : Memory.wfFrom lo m = true) :
    Memory.read (Memory.write m i v) i = v := by
  induction m generalizing lo with
  | nil => exact Memory.read_listed_same (lo := i + 1) rfl (by omega)
  | cons e m ih =>
    obtain ⟨a, b⟩ := e
    have hm' := Memory.wfFrom_cons.1 hm
    simp only [Memory.write]
    split
    · exact Memory.read_listed_same (lo := a) (Memory.wfFrom_cons.2 ⟨le_refl a, hm'.2⟩) ‹_›
    · split
      · subst ‹i = a›; exact Memory.read_listed_same hm'.2.2.2 (by omega)
      · have : a ≠ i := fun e => by omega
        simp only [Memory.read, if_neg this]
        exact ih hm'.2.2.2

/-- A write leaves every other index alone. -/
theorem Memory.read_write_other {i j : Nat} {v : Octet} (m : Memory) (h : j ≠ i) :
    Memory.read (Memory.write m i v) j = Memory.read m j := by
  induction m with
  | nil => exact Memory.read_listed_other h
  | cons e m ih =>
    obtain ⟨a, b⟩ := e
    simp only [Memory.write]
    split
    · exact Memory.read_listed_other h
    · split
      · subst ‹i = a›
        rw [Memory.read_listed_other h]
        simp [Memory.read, h.symm]
      · simp only [Memory.read, ih]

theorem Memory.writeAll_wf {i : Nat} {vs : List Octet} {m : Memory} (hi : i + vs.length ≤ nMaxData)
    (hm : m.wf = true) : (m.writeAll i vs).wf = true := by
  induction vs generalizing i m with
  | nil => exact hm
  | cons v vs ih =>
    simp only [List.length_cons] at hi
    exact ih (by omega) (Memory.write_wf (by omega) hm)

/-- Indexes below the first written keep their octets. -/
theorem Memory.read_writeAll_below {i j : Nat} {vs : List Octet} (m : Memory) (h : j < i) :
    (m.writeAll i vs).read j = m.read j := by
  induction vs generalizing i m with
  | nil => rfl
  | cons v vs ih =>
    rw [Memory.writeAll, ih _ (by omega), Memory.read_write_other m (by omega)]

/-- Indexes past the last written keep their octets. -/
theorem Memory.read_writeAll_above {i j : Nat} {vs : List Octet} (m : Memory) (h : i + vs.length ≤ j) :
    (m.writeAll i vs).read j = m.read j := by
  induction vs generalizing i m with
  | nil => rfl
  | cons v vs ih =>
    simp only [List.length_cons] at h
    rw [Memory.writeAll, ih _ (by omega), Memory.read_write_other m (by omega)]

/-- The octets written stand where they were written. -/
theorem Memory.read_writeAll_at {i k : Nat} {vs : List Octet} {m : Memory} (hi : i + vs.length ≤ nMaxData)
    (hm : m.wf = true) (hk : k < vs.length) : (m.writeAll i vs).read (i + k) = vs[k] := by
  induction vs generalizing i k m with
  | nil => simp at hk
  | cons v vs ih =>
    simp only [List.length_cons] at hi hk
    rw [Memory.writeAll]
    cases k with
    | zero =>
      rw [Nat.add_zero, Memory.read_writeAll_below _ (by omega)]
      exact Memory.read_write_same hm
    | succ k =>
      have := ih (i := i + 1) (k := k) (m := m.write i v) (by omega) (Memory.write_wf (by omega) hm) (by omega)
      rw [show i + (k + 1) = i + 1 + k by omega, this, List.getElem_cons_succ]

@[simp] theorem Memory.octets_length (m : Memory) (n : Nat) : (m.octets n).length = n := by
  simp [Memory.octets]

/-- Reading back a whole payload (44_host_ops.md R198, R200; 20_memory.md R49). -/
theorem Memory.octets_writeAll {vs : List Octet} {m : Memory} (hi : vs.length ≤ nMaxData) (hm : m.wf = true) :
    (m.writeAll 0 vs).octets vs.length = vs := by
  apply List.ext_getElem (by simp)
  intro k h₁ h₂
  simpa [Memory.octets] using Memory.read_writeAll_at (i := 0) (by omega) hm h₂

/-- Two canonical forms from one index on that read alike are the same list. -/
theorem Memory.ext_from {lo : Nat} {m m' : Memory} (hm : Memory.wfFrom lo m = true)
    (hm' : Memory.wfFrom lo m' = true) (h : ∀ i, m.read i = m'.read i) : m = m' := by
  induction m generalizing lo m' with
  | nil =>
    cases m' with
    | nil => rfl
    | cons e m' =>
      obtain ⟨a, b⟩ := e
      have := h a
      simp [Memory.read] at this
      exact absurd this.symm (Memory.wfFrom_cons.1 hm').2.2.1
  | cons e m ih =>
    obtain ⟨a, b⟩ := e
    have w := Memory.wfFrom_cons.1 hm
    cases m' with
    | nil =>
      have := h a
      simp [Memory.read] at this
      exact absurd this w.2.2.1
    | cons e' m' =>
      obtain ⟨a', b'⟩ := e'
      have w' := Memory.wfFrom_cons.1 hm'
      have haa : a = a' := by
        rcases Nat.lt_trichotomy a a' with hlt | heq | hgt
        · have := h a
          rw [Memory.read_below (m := (a', b') :: m') (lo := a') (Memory.wfFrom_cons.2 ⟨le_refl _, w'.2⟩) hlt] at this
          simp [Memory.read] at this
          exact absurd this w.2.2.1
        · exact heq
        · have := h a'
          rw [Memory.read_below (m := (a, b) :: m) (lo := a) (Memory.wfFrom_cons.2 ⟨le_refl _, w.2⟩) hgt] at this
          simp [Memory.read] at this
          exact absurd this.symm w'.2.2.1
      subst haa
      have hb : b = b' := by simpa [Memory.read] using h a
      subst hb
      congr 1
      apply ih w.2.2.2 w'.2.2.2
      intro i
      by_cases hi : i < a + 1
      · rw [Memory.read_below w.2.2.2 hi, Memory.read_below w'.2.2.2 hi]
      · have := h i
        have hne : a ≠ i := by omega
        simpa [Memory.read, hne] using this

/-- Equal memories are equal data: two canonical forms that read alike are the same list. -/
theorem Memory.ext {m m' : Memory} (hm : m.wf = true) (hm' : m'.wf = true) (h : ∀ i, m.read i = m'.read i) :
    m = m' := Memory.ext_from hm hm' h

/-- Every buffer has the canonical form at reset. -/
theorem reset_memories_wf (cfg : Config) :
    (State.resetWith cfg).rxBuf.wf = true ∧ (State.resetWith cfg).txqData.wf = true ∧
      (State.resetWith cfg).rplData.wf = true := ⟨rfl, rfl, rfl⟩

end Sys2Proof.Machine
end

