-- ==== Sys2Proof/Laws/State.lean ====
section
/-! SUPPORT. What each named update of the state does to each field, so that no later proof unfolds a record update. -/

namespace Sys2Proof.Machine

/-! Send (42_token_fsm.md R128). -/

@[simp] theorem send_cfg (t d : Octet) (data : List Octet) (s : State) : (send t d data s).cfg = s.cfg := rfl
@[simp] theorem send_rxState (t d : Octet) (data : List Octet) (s : State) : (send t d data s).rxState = s.rxState := rfl
@[simp] theorem send_rxIndex (t d : Octet) (data : List Octet) (s : State) : (send t d data s).rxIndex = s.rxIndex := rfl
@[simp] theorem send_rxHcrc (t d : Octet) (data : List Octet) (s : State) : (send t d data s).rxHcrc = s.rxHcrc := rfl
@[simp] theorem send_rxDcrc (t d : Octet) (data : List Octet) (s : State) : (send t d data s).rxDcrc = s.rxDcrc := rfl
@[simp] theorem send_rxType (t d : Octet) (data : List Octet) (s : State) : (send t d data s).rxType = s.rxType := rfl
@[simp] theorem send_rxDest (t d : Octet) (data : List Octet) (s : State) : (send t d data s).rxDest = s.rxDest := rfl
@[simp] theorem send_rxSrc (t d : Octet) (data : List Octet) (s : State) : (send t d data s).rxSrc = s.rxSrc := rfl
@[simp] theorem send_rxLen (t d : Octet) (data : List Octet) (s : State) : (send t d data s).rxLen = s.rxLen := rfl
@[simp] theorem send_rxBuf (t d : Octet) (data : List Octet) (s : State) : (send t d data s).rxBuf = s.rxBuf := rfl
@[simp] theorem send_frType (t d : Octet) (data : List Octet) (s : State) : (send t d data s).frType = s.frType := rfl
@[simp] theorem send_frDest (t d : Octet) (data : List Octet) (s : State) : (send t d data s).frDest = s.frDest := rfl
@[simp] theorem send_frSrc (t d : Octet) (data : List Octet) (s : State) : (send t d data s).frSrc = s.frSrc := rfl
@[simp] theorem send_frLen (t d : Octet) (data : List Octet) (s : State) : (send t d data s).frLen = s.frLen := rfl
@[simp] theorem send_rvf (t d : Octet) (data : List Octet) (s : State) : (send t d data s).rvf = s.rvf := rfl
@[simp] theorem send_rif (t d : Octet) (data : List Octet) (s : State) : (send t d data s).rif = s.rif := rfl
@[simp] theorem send_tkState (t d : Octet) (data : List Octet) (s : State) : (send t d data s).tkState = s.tkState := rfl
@[simp] theorem send_ns (t d : Octet) (data : List Octet) (s : State) : (send t d data s).ns = s.ns := rfl
@[simp] theorem send_ps (t d : Octet) (data : List Octet) (s : State) : (send t d data s).ps = s.ps := rfl
@[simp] theorem send_soleMaster (t d : Octet) (data : List Octet) (s : State) : (send t d data s).soleMaster = s.soleMaster := rfl
@[simp] theorem send_tokenCount (t d : Octet) (data : List Octet) (s : State) : (send t d data s).tokenCount = s.tokenCount := rfl
@[simp] theorem send_frameCount (t d : Octet) (data : List Octet) (s : State) : (send t d data s).frameCount = s.frameCount := rfl
@[simp] theorem send_retryCount (t d : Octet) (data : List Octet) (s : State) : (send t d data s).retryCount = s.retryCount := rfl
@[simp] theorem send_eventCount (t d : Octet) (data : List Octet) (s : State) : (send t d data s).eventCount = s.eventCount := rfl
@[simp] theorem send_reqSrc (t d : Octet) (data : List Octet) (s : State) : (send t d data s).reqSrc = s.reqSrc := rfl
@[simp] theorem send_reqType (t d : Octet) (data : List Octet) (s : State) : (send t d data s).reqType = s.reqType := rfl
@[simp] theorem send_waitType (t d : Octet) (data : List Octet) (s : State) : (send t d data s).waitType = s.waitType := rfl
@[simp] theorem send_silence (t d : Octet) (data : List Octet) (s : State) : (send t d data s).silence = 0 := rfl
@[simp] theorem send_replyTimer (t d : Octet) (data : List Octet) (s : State) : (send t d data s).replyTimer = s.replyTimer := rfl
@[simp] theorem send_txqValid (t d : Octet) (data : List Octet) (s : State) : (send t d data s).txqValid = s.txqValid := rfl
@[simp] theorem send_txqType (t d : Octet) (data : List Octet) (s : State) : (send t d data s).txqType = s.txqType := rfl
@[simp] theorem send_txqDest (t d : Octet) (data : List Octet) (s : State) : (send t d data s).txqDest = s.txqDest := rfl
@[simp] theorem send_txqLen (t d : Octet) (data : List Octet) (s : State) : (send t d data s).txqLen = s.txqLen := rfl
@[simp] theorem send_txqData (t d : Octet) (data : List Octet) (s : State) : (send t d data s).txqData = s.txqData := rfl
@[simp] theorem send_rplValid (t d : Octet) (data : List Octet) (s : State) : (send t d data s).rplValid = s.rplValid := rfl
@[simp] theorem send_rplType (t d : Octet) (data : List Octet) (s : State) : (send t d data s).rplType = s.rplType := rfl
@[simp] theorem send_rplLen (t d : Octet) (data : List Octet) (s : State) : (send t d data s).rplLen = s.rplLen := rfl
@[simp] theorem send_rplData (t d : Octet) (data : List Octet) (s : State) : (send t d data s).rplData = s.rplData := rfl
@[simp] theorem send_status (t d : Octet) (data : List Octet) (s : State) : (send t d data s).status = s.status := rfl
@[simp] theorem send_inputs (t d : Octet) (data : List Octet) (s : State) : (send t d data s).inputs = s.inputs := rfl
@[simp] theorem send_events (t d : Octet) (data : List Octet) (s : State) : (send t d data s).events = s.events ++ [.send t d s.cfg.ts data (encodeFrame t d s.cfg.ts data)] := rfl

/-! post(Valid) (41_receive_fsm.md R115). -/

@[simp] theorem postValid_cfg (s : State) : (postValid s).cfg = s.cfg := rfl
@[simp] theorem postValid_rxState (s : State) : (postValid s).rxState = s.rxState := rfl
@[simp] theorem postValid_rxIndex (s : State) : (postValid s).rxIndex = s.rxIndex := rfl
@[simp] theorem postValid_rxHcrc (s : State) : (postValid s).rxHcrc = s.rxHcrc := rfl
@[simp] theorem postValid_rxDcrc (s : State) : (postValid s).rxDcrc = s.rxDcrc := rfl
@[simp] theorem postValid_rxType (s : State) : (postValid s).rxType = s.rxType := rfl
@[simp] theorem postValid_rxDest (s : State) : (postValid s).rxDest = s.rxDest := rfl
@[simp] theorem postValid_rxSrc (s : State) : (postValid s).rxSrc = s.rxSrc := rfl
@[simp] theorem postValid_rxLen (s : State) : (postValid s).rxLen = s.rxLen := rfl
@[simp] theorem postValid_rxBuf (s : State) : (postValid s).rxBuf = s.rxBuf := rfl
@[simp] theorem postValid_frType (s : State) : (postValid s).frType = s.rxType := rfl
@[simp] theorem postValid_frDest (s : State) : (postValid s).frDest = s.rxDest := rfl
@[simp] theorem postValid_frSrc (s : State) : (postValid s).frSrc = s.rxSrc := rfl
@[simp] theorem postValid_frLen (s : State) : (postValid s).frLen = s.rxLen := rfl
@[simp] theorem postValid_rvf (s : State) : (postValid s).rvf = true := rfl
@[simp] theorem postValid_rif (s : State) : (postValid s).rif = false := rfl
@[simp] theorem postValid_tkState (s : State) : (postValid s).tkState = s.tkState := rfl
@[simp] theorem postValid_ns (s : State) : (postValid s).ns = s.ns := rfl
@[simp] theorem postValid_ps (s : State) : (postValid s).ps = s.ps := rfl
@[simp] theorem postValid_soleMaster (s : State) : (postValid s).soleMaster = s.soleMaster := rfl
@[simp] theorem postValid_tokenCount (s : State) : (postValid s).tokenCount = s.tokenCount := rfl
@[simp] theorem postValid_frameCount (s : State) : (postValid s).frameCount = s.frameCount := rfl
@[simp] theorem postValid_retryCount (s : State) : (postValid s).retryCount = s.retryCount := rfl
@[simp] theorem postValid_eventCount (s : State) : (postValid s).eventCount = s.eventCount := rfl
@[simp] theorem postValid_reqSrc (s : State) : (postValid s).reqSrc = s.reqSrc := rfl
@[simp] theorem postValid_reqType (s : State) : (postValid s).reqType = s.reqType := rfl
@[simp] theorem postValid_waitType (s : State) : (postValid s).waitType = s.waitType := rfl
@[simp] theorem postValid_silence (s : State) : (postValid s).silence = s.silence := rfl
@[simp] theorem postValid_replyTimer (s : State) : (postValid s).replyTimer = s.replyTimer := rfl
@[simp] theorem postValid_txqValid (s : State) : (postValid s).txqValid = s.txqValid := rfl
@[simp] theorem postValid_txqType (s : State) : (postValid s).txqType = s.txqType := rfl
@[simp] theorem postValid_txqDest (s : State) : (postValid s).txqDest = s.txqDest := rfl
@[simp] theorem postValid_txqLen (s : State) : (postValid s).txqLen = s.txqLen := rfl
@[simp] theorem postValid_txqData (s : State) : (postValid s).txqData = s.txqData := rfl
@[simp] theorem postValid_rplValid (s : State) : (postValid s).rplValid = s.rplValid := rfl
@[simp] theorem postValid_rplType (s : State) : (postValid s).rplType = s.rplType := rfl
@[simp] theorem postValid_rplLen (s : State) : (postValid s).rplLen = s.rplLen := rfl
@[simp] theorem postValid_rplData (s : State) : (postValid s).rplData = s.rplData := rfl
@[simp] theorem postValid_status (s : State) : (postValid s).status = statusAfterPost s := rfl
@[simp] theorem postValid_inputs (s : State) : (postValid s).inputs = s.inputs := rfl
@[simp] theorem postValid_events (s : State) : (postValid s).events = s.events := rfl

/-! post(Invalid) (41_receive_fsm.md R115). -/

@[simp] theorem postInvalid_cfg (s : State) : (postInvalid s).cfg = s.cfg := rfl
@[simp] theorem postInvalid_rxState (s : State) : (postInvalid s).rxState = s.rxState := rfl
@[simp] theorem postInvalid_rxIndex (s : State) : (postInvalid s).rxIndex = s.rxIndex := rfl
@[simp] theorem postInvalid_rxHcrc (s : State) : (postInvalid s).rxHcrc = s.rxHcrc := rfl
@[simp] theorem postInvalid_rxDcrc (s : State) : (postInvalid s).rxDcrc = s.rxDcrc := rfl
@[simp] theorem postInvalid_rxType (s : State) : (postInvalid s).rxType = s.rxType := rfl
@[simp] theorem postInvalid_rxDest (s : State) : (postInvalid s).rxDest = s.rxDest := rfl
@[simp] theorem postInvalid_rxSrc (s : State) : (postInvalid s).rxSrc = s.rxSrc := rfl
@[simp] theorem postInvalid_rxLen (s : State) : (postInvalid s).rxLen = s.rxLen := rfl
@[simp] theorem postInvalid_rxBuf (s : State) : (postInvalid s).rxBuf = s.rxBuf := rfl
@[simp] theorem postInvalid_frType (s : State) : (postInvalid s).frType = s.frType := rfl
@[simp] theorem postInvalid_frDest (s : State) : (postInvalid s).frDest = s.frDest := rfl
@[simp] theorem postInvalid_frSrc (s : State) : (postInvalid s).frSrc = s.frSrc := rfl
@[simp] theorem postInvalid_frLen (s : State) : (postInvalid s).frLen = s.frLen := rfl
@[simp] theorem postInvalid_rvf (s : State) : (postInvalid s).rvf = false := rfl
@[simp] theorem postInvalid_rif (s : State) : (postInvalid s).rif = true := rfl
@[simp] theorem postInvalid_tkState (s : State) : (postInvalid s).tkState = s.tkState := rfl
@[simp] theorem postInvalid_ns (s : State) : (postInvalid s).ns = s.ns := rfl
@[simp] theorem postInvalid_ps (s : State) : (postInvalid s).ps = s.ps := rfl
@[simp] theorem postInvalid_soleMaster (s : State) : (postInvalid s).soleMaster = s.soleMaster := rfl
@[simp] theorem postInvalid_tokenCount (s : State) : (postInvalid s).tokenCount = s.tokenCount := rfl
@[simp] theorem postInvalid_frameCount (s : State) : (postInvalid s).frameCount = s.frameCount := rfl
@[simp] theorem postInvalid_retryCount (s : State) : (postInvalid s).retryCount = s.retryCount := rfl
@[simp] theorem postInvalid_eventCount (s : State) : (postInvalid s).eventCount = s.eventCount := rfl
@[simp] theorem postInvalid_reqSrc (s : State) : (postInvalid s).reqSrc = s.reqSrc := rfl
@[simp] theorem postInvalid_reqType (s : State) : (postInvalid s).reqType = s.reqType := rfl
@[simp] theorem postInvalid_waitType (s : State) : (postInvalid s).waitType = s.waitType := rfl
@[simp] theorem postInvalid_silence (s : State) : (postInvalid s).silence = s.silence := rfl
@[simp] theorem postInvalid_replyTimer (s : State) : (postInvalid s).replyTimer = s.replyTimer := rfl
@[simp] theorem postInvalid_txqValid (s : State) : (postInvalid s).txqValid = s.txqValid := rfl
@[simp] theorem postInvalid_txqType (s : State) : (postInvalid s).txqType = s.txqType := rfl
@[simp] theorem postInvalid_txqDest (s : State) : (postInvalid s).txqDest = s.txqDest := rfl
@[simp] theorem postInvalid_txqLen (s : State) : (postInvalid s).txqLen = s.txqLen := rfl
@[simp] theorem postInvalid_txqData (s : State) : (postInvalid s).txqData = s.txqData := rfl
@[simp] theorem postInvalid_rplValid (s : State) : (postInvalid s).rplValid = s.rplValid := rfl
@[simp] theorem postInvalid_rplType (s : State) : (postInvalid s).rplType = s.rplType := rfl
@[simp] theorem postInvalid_rplLen (s : State) : (postInvalid s).rplLen = s.rplLen := rfl
@[simp] theorem postInvalid_rplData (s : State) : (postInvalid s).rplData = s.rplData := rfl
@[simp] theorem postInvalid_status (s : State) : (postInvalid s).status = statusAfterPost s := rfl
@[simp] theorem postInvalid_inputs (s : State) : (postInvalid s).inputs = s.inputs := rfl
@[simp] theorem postInvalid_events (s : State) : (postInvalid s).events = s.events := rfl

/-! the activity phase (41_receive_fsm.md R99). -/

@[simp] theorem activityPhase_cfg (s : State) : (activityPhase s).cfg = s.cfg := rfl
@[simp] theorem activityPhase_rxState (s : State) : (activityPhase s).rxState = s.rxState := rfl
@[simp] theorem activityPhase_rxIndex (s : State) : (activityPhase s).rxIndex = s.rxIndex := rfl
@[simp] theorem activityPhase_rxHcrc (s : State) : (activityPhase s).rxHcrc = s.rxHcrc := rfl
@[simp] theorem activityPhase_rxDcrc (s : State) : (activityPhase s).rxDcrc = s.rxDcrc := rfl
@[simp] theorem activityPhase_rxType (s : State) : (activityPhase s).rxType = s.rxType := rfl
@[simp] theorem activityPhase_rxDest (s : State) : (activityPhase s).rxDest = s.rxDest := rfl
@[simp] theorem activityPhase_rxSrc (s : State) : (activityPhase s).rxSrc = s.rxSrc := rfl
@[simp] theorem activityPhase_rxLen (s : State) : (activityPhase s).rxLen = s.rxLen := rfl
@[simp] theorem activityPhase_rxBuf (s : State) : (activityPhase s).rxBuf = s.rxBuf := rfl
@[simp] theorem activityPhase_frType (s : State) : (activityPhase s).frType = s.frType := rfl
@[simp] theorem activityPhase_frDest (s : State) : (activityPhase s).frDest = s.frDest := rfl
@[simp] theorem activityPhase_frSrc (s : State) : (activityPhase s).frSrc = s.frSrc := rfl
@[simp] theorem activityPhase_frLen (s : State) : (activityPhase s).frLen = s.frLen := rfl
@[simp] theorem activityPhase_rvf (s : State) : (activityPhase s).rvf = s.rvf := rfl
@[simp] theorem activityPhase_rif (s : State) : (activityPhase s).rif = s.rif := rfl
@[simp] theorem activityPhase_tkState (s : State) : (activityPhase s).tkState = s.tkState := rfl
@[simp] theorem activityPhase_ns (s : State) : (activityPhase s).ns = s.ns := rfl
@[simp] theorem activityPhase_ps (s : State) : (activityPhase s).ps = s.ps := rfl
@[simp] theorem activityPhase_soleMaster (s : State) : (activityPhase s).soleMaster = s.soleMaster := rfl
@[simp] theorem activityPhase_tokenCount (s : State) : (activityPhase s).tokenCount = s.tokenCount := rfl
@[simp] theorem activityPhase_frameCount (s : State) : (activityPhase s).frameCount = s.frameCount := rfl
@[simp] theorem activityPhase_retryCount (s : State) : (activityPhase s).retryCount = s.retryCount := rfl
@[simp] theorem activityPhase_eventCount (s : State) : (activityPhase s).eventCount = satInc8 s.eventCount := rfl
@[simp] theorem activityPhase_reqSrc (s : State) : (activityPhase s).reqSrc = s.reqSrc := rfl
@[simp] theorem activityPhase_reqType (s : State) : (activityPhase s).reqType = s.reqType := rfl
@[simp] theorem activityPhase_waitType (s : State) : (activityPhase s).waitType = s.waitType := rfl
@[simp] theorem activityPhase_silence (s : State) : (activityPhase s).silence = 0 := rfl
@[simp] theorem activityPhase_replyTimer (s : State) : (activityPhase s).replyTimer = s.replyTimer := rfl
@[simp] theorem activityPhase_txqValid (s : State) : (activityPhase s).txqValid = s.txqValid := rfl
@[simp] theorem activityPhase_txqType (s : State) : (activityPhase s).txqType = s.txqType := rfl
@[simp] theorem activityPhase_txqDest (s : State) : (activityPhase s).txqDest = s.txqDest := rfl
@[simp] theorem activityPhase_txqLen (s : State) : (activityPhase s).txqLen = s.txqLen := rfl
@[simp] theorem activityPhase_txqData (s : State) : (activityPhase s).txqData = s.txqData := rfl
@[simp] theorem activityPhase_rplValid (s : State) : (activityPhase s).rplValid = s.rplValid := rfl
@[simp] theorem activityPhase_rplType (s : State) : (activityPhase s).rplType = s.rplType := rfl
@[simp] theorem activityPhase_rplLen (s : State) : (activityPhase s).rplLen = s.rplLen := rfl
@[simp] theorem activityPhase_rplData (s : State) : (activityPhase s).rplData = s.rplData := rfl
@[simp] theorem activityPhase_status (s : State) : (activityPhase s).status = s.status := rfl
@[simp] theorem activityPhase_inputs (s : State) : (activityPhase s).inputs = s.inputs := rfl
@[simp] theorem activityPhase_events (s : State) : (activityPhase s).events = s.events := rfl

/-! ignore() (44_host_ops.md R203). -/

@[simp] theorem ignoreCommand_cfg (s : State) : (ignoreCommand s).cfg = s.cfg := rfl
@[simp] theorem ignoreCommand_rxState (s : State) : (ignoreCommand s).rxState = s.rxState := rfl
@[simp] theorem ignoreCommand_rxIndex (s : State) : (ignoreCommand s).rxIndex = s.rxIndex := rfl
@[simp] theorem ignoreCommand_rxHcrc (s : State) : (ignoreCommand s).rxHcrc = s.rxHcrc := rfl
@[simp] theorem ignoreCommand_rxDcrc (s : State) : (ignoreCommand s).rxDcrc = s.rxDcrc := rfl
@[simp] theorem ignoreCommand_rxType (s : State) : (ignoreCommand s).rxType = s.rxType := rfl
@[simp] theorem ignoreCommand_rxDest (s : State) : (ignoreCommand s).rxDest = s.rxDest := rfl
@[simp] theorem ignoreCommand_rxSrc (s : State) : (ignoreCommand s).rxSrc = s.rxSrc := rfl
@[simp] theorem ignoreCommand_rxLen (s : State) : (ignoreCommand s).rxLen = s.rxLen := rfl
@[simp] theorem ignoreCommand_rxBuf (s : State) : (ignoreCommand s).rxBuf = s.rxBuf := rfl
@[simp] theorem ignoreCommand_frType (s : State) : (ignoreCommand s).frType = s.frType := rfl
@[simp] theorem ignoreCommand_frDest (s : State) : (ignoreCommand s).frDest = s.frDest := rfl
@[simp] theorem ignoreCommand_frSrc (s : State) : (ignoreCommand s).frSrc = s.frSrc := rfl
@[simp] theorem ignoreCommand_frLen (s : State) : (ignoreCommand s).frLen = s.frLen := rfl
@[simp] theorem ignoreCommand_rvf (s : State) : (ignoreCommand s).rvf = s.rvf := rfl
@[simp] theorem ignoreCommand_rif (s : State) : (ignoreCommand s).rif = s.rif := rfl
@[simp] theorem ignoreCommand_tkState (s : State) : (ignoreCommand s).tkState = s.tkState := rfl
@[simp] theorem ignoreCommand_ns (s : State) : (ignoreCommand s).ns = s.ns := rfl
@[simp] theorem ignoreCommand_ps (s : State) : (ignoreCommand s).ps = s.ps := rfl
@[simp] theorem ignoreCommand_soleMaster (s : State) : (ignoreCommand s).soleMaster = s.soleMaster := rfl
@[simp] theorem ignoreCommand_tokenCount (s : State) : (ignoreCommand s).tokenCount = s.tokenCount := rfl
@[simp] theorem ignoreCommand_frameCount (s : State) : (ignoreCommand s).frameCount = s.frameCount := rfl
@[simp] theorem ignoreCommand_retryCount (s : State) : (ignoreCommand s).retryCount = s.retryCount := rfl
@[simp] theorem ignoreCommand_eventCount (s : State) : (ignoreCommand s).eventCount = s.eventCount := rfl
@[simp] theorem ignoreCommand_reqSrc (s : State) : (ignoreCommand s).reqSrc = s.reqSrc := rfl
@[simp] theorem ignoreCommand_reqType (s : State) : (ignoreCommand s).reqType = s.reqType := rfl
@[simp] theorem ignoreCommand_waitType (s : State) : (ignoreCommand s).waitType = s.waitType := rfl
@[simp] theorem ignoreCommand_silence (s : State) : (ignoreCommand s).silence = s.silence := rfl
@[simp] theorem ignoreCommand_replyTimer (s : State) : (ignoreCommand s).replyTimer = s.replyTimer := rfl
@[simp] theorem ignoreCommand_txqValid (s : State) : (ignoreCommand s).txqValid = s.txqValid := rfl
@[simp] theorem ignoreCommand_txqType (s : State) : (ignoreCommand s).txqType = s.txqType := rfl
@[simp] theorem ignoreCommand_txqDest (s : State) : (ignoreCommand s).txqDest = s.txqDest := rfl
@[simp] theorem ignoreCommand_txqLen (s : State) : (ignoreCommand s).txqLen = s.txqLen := rfl
@[simp] theorem ignoreCommand_txqData (s : State) : (ignoreCommand s).txqData = s.txqData := rfl
@[simp] theorem ignoreCommand_rplValid (s : State) : (ignoreCommand s).rplValid = s.rplValid := rfl
@[simp] theorem ignoreCommand_rplType (s : State) : (ignoreCommand s).rplType = s.rplType := rfl
@[simp] theorem ignoreCommand_rplLen (s : State) : (ignoreCommand s).rplLen = s.rplLen := rfl
@[simp] theorem ignoreCommand_rplData (s : State) : (ignoreCommand s).rplData = s.rplData := rfl
@[simp] theorem ignoreCommand_status (s : State) : (ignoreCommand s).status = s.status ||| 2#2 := rfl
@[simp] theorem ignoreCommand_inputs (s : State) : (ignoreCommand s).inputs = s.inputs := rfl
@[simp] theorem ignoreCommand_events (s : State) : (ignoreCommand s).events = s.events := rfl

end Sys2Proof.Machine
end

