-- ==== Sys2Proof/Laws/Ops.lean ====
section
/-! SUPPORT. What each shared operation can do, said once. -/

namespace Sys2Proof.Machine

/-- The address step's result lies in 0..N_MAX_MASTER (42_token_fsm.md R129). -/
theorem nextStation_toNat (c : Config) (x : Octet) :
    (nextStation c x).toNat = (x.toNat + 1) % (c.nMaxMaster.toNat + 1) := by
  have h : (x.toNat + 1) % (c.nMaxMaster.toNat + 1) < c.nMaxMaster.toNat + 1 := Nat.mod_lt _ (Nat.succ_pos _)
  have hm := c.nMaxMaster.isLt
  simp only [nextStation, BitVec.toNat_ofNat]
  exact Nat.mod_eq_of_lt (by omega)

theorem nextStation_le (c : Config) (x : Octet) : nextStation c x ≤ c.nMaxMaster := by
  rw [BitVec.le_def, nextStation_toNat]
  exact Nat.le_of_lt_succ (Nat.mod_lt _ (Nat.succ_pos _))

/-- `sat_inc_8` is the increment cut off at 255 (00_scope.md R8). -/
theorem satInc8_toNat (r : Octet) : (satInc8 r).toNat = min (r.toNat + 1) 255 := by
  have := r.isLt
  unfold satInc8
  split
  · subst ‹r = 0xFF#8›; rfl
  · have : r.toNat ≠ 255 := fun h => ‹¬r = 0xFF#8› (BitVec.eq_of_toNat_eq h)
    rw [BitVec.toNat_add, show (1 : Octet).toNat = 1 from rfl]
    omega

/-- `sat_inc_10` is the increment cut off at 0x3FF (00_scope.md R8, R11). -/
theorem satInc10_toNat (r : BitVec 10) : (satInc10 r).toNat = min (r.toNat + 1) 0x3FF := by
  have := r.isLt
  unfold satInc10
  split
  · subst ‹r = 0x3FF#10›; rfl
  · have : r.toNat ≠ 0x3FF := fun h => ‹¬r = 0x3FF#10› (BitVec.eq_of_toNat_eq h)
    rw [BitVec.toNat_add, show (1 : BitVec 10).toNat = 1 from rfl]
    omega

/-- Below its top, where every run keeps `rx_index` (10_state.md R19), `sat_inc_10` is the plain increment. -/
theorem satInc10_of_lt {r : BitVec 10} (h : r.toNat < 0x3FF) : satInc10 r = r + 1 :=
  if_neg fun e => by subst e; exact absurd h (by decide)

/-- `sat_inc_16` is the increment cut off at 0xFFFF (00_scope.md R8). -/
theorem satInc16_toNat (r : Word16) : (satInc16 r).toNat = min (r.toNat + 1) 0xFFFF := by
  have := r.isLt
  unfold satInc16
  split
  · subst ‹r = 0xFFFF#16›; rfl
  · have : r.toNat ≠ 0xFFFF := fun h => ‹¬r = 0xFFFF#16› (BitVec.eq_of_toNat_eq h)
    rw [BitVec.toNat_add, show (1 : Word16).toNat = 1 from rfl]
    omega

/-- Inside the bounds a buffer's octets are simply read. -/
theorem withOctets_of_le {m : Memory} {len : Word16} {k : List Octet → Host.Outcome State Fault Refusal}
    (h : len.toNat ≤ nMaxData) : withOctets m len k = k (m.octets len.toNat) := if_pos h

/-- All that `withOctets` can do when it answers a next state. -/
theorem withOctets_next {m : Memory} {len : Word16} {k : List Octet → Host.Outcome State Fault Refusal} {t : State}
    (h : withOctets m len k = .next t) : len.toNat ≤ nMaxData ∧ k (m.octets len.toNat) = .next t := by
  unfold withOctets at h
  split at h
  · exact ⟨‹_›, h⟩
  · cases h

/-- All that `indicate` can do when it answers a next state (42_token_fsm.md R130). -/
theorem indicate_next {t : Octet} {s s' : State} (h : indicate t s = .next s') :
    s.frLen.toNat ≤ nMaxData ∧
      s' = { s with events := s.events ++ [.indicate t s.frDest s.frSrc (s.rxBuf.octets s.frLen.toNat)] } := by
  obtain ⟨hl, hk⟩ := withOctets_next h
  cases hk
  exact ⟨hl, rfl⟩

/-- Inside the bounds `indicate` delivers the latched frame. -/
theorem indicate_of_le {t : Octet} {s : State} (h : s.frLen.toNat ≤ nMaxData) :
    indicate t s =
      .next { s with events := s.events ++ [.indicate t s.frDest s.frSrc (s.rxBuf.octets s.frLen.toNat)] } :=
  if_pos h

/-- All that the timeout phase can do (41_receive_fsm.md R100). -/
theorem timeoutPhase_cases (s : State) :
    (frameAborts s = false ∧ timeoutPhase s = s) ∨
      (frameAborts s = true ∧ s.rxState = .preamble ∧ timeoutPhase s = { s with rxState := .idle }) ∨
      (frameAborts s = true ∧ (s.rxState = .header ∨ s.rxState = .data) ∧
        timeoutPhase s = { postInvalid s with rxState := .idle }) := by
  cases hf : frameAborts s with
  | false => exact .inl ⟨rfl, by simp [timeoutPhase, hf]⟩
  | true =>
    right
    cases hr : s.rxState with
    | idle => simp [frameAborts, hr] at hf
    | preamble => exact .inl ⟨rfl, rfl, by simp [timeoutPhase, hf, hr]⟩
    | header => exact .inr ⟨rfl, .inl rfl, by simp [timeoutPhase, hf, hr]⟩
    | data => exact .inr ⟨rfl, .inr rfl, by simp [timeoutPhase, hf, hr]⟩

/-- Where the frame-abort comparator does not hold, the timeout phase does nothing. -/
theorem timeoutPhase_of_not_aborts {s : State} (h : frameAborts s = false) : timeoutPhase s = s := by
  simp [timeoutPhase, h]

/-- The comparator never holds in Idle. -/
theorem frameAborts_idle {s : State} (h : s.rxState = .idle) : frameAborts s = false := by
  simp [frameAborts, h]

/-- All that a data octet can do when it answers a next state (41_receive_fsm.md R111). -/
theorem dataByte_next {v : Octet} {s t : State} (h : dataByte v s = .next t) :
    (s.rxIndex.toNat < s.rxLen.toNat ∧ s.rxIndex.toNat < nMaxData ∧
        t = dataCount v { s with rxBuf := s.rxBuf.write s.rxIndex.toNat v }) ∨
      (s.rxLen.toNat ≤ s.rxIndex.toNat ∧ t = dataCount v s) := by
  unfold dataByte at h
  split at h
  · split at h
    · cases h; exact .inl ⟨‹_›, ‹_›, rfl⟩
    · cases h
  · cases h; exact .inr ⟨by omega, rfl⟩

/-- Where a MASTER_STEP takes the posted frame, it is the action on that frame's type (42_token_fsm.md R177). -/
theorem execMasterStep_of_takesFrame {s : State} (h : takesFrame s = true) :
    execMasterStep s = frameAction s.frType s := by
  unfold takesFrame at h
  unfold execMasterStep frameAction
  cases ht : s.tkState <;> simp [ht] at h ⊢
  · simp [idleStep, h]
  · simp [waitStep, h]
  · simp [pollStep, h]

/-- What `takeFrame` does where the frame is taken. -/
theorem takeFrame_of_takes {t : Octet} {s : State} (h : takesFrame s = true) : takeFrame t s = frameAction t s :=
  if_pos h

/-- What `takeFrame` does where the frame stays pending. -/
theorem takeFrame_of_not_takes {t : Octet} {s : State} (h : takesFrame s = false) : takeFrame t s = .next s := by
  simp [takeFrame, h]

/-- Each frame-type instruction takes the frame whose type octet its encoding is. -/
theorem exec_decodeFrameType (t : Octet) (s : State) : exec (decodeFrameType t) s = takeFrame t s := by
  have low : ∀ t : Octet, ∀ s, exec (decodeFrameType t) s =
      takeFrame (match encode (decodeFrameType t) with | .frameType u => u | .command _ => t) s := by
    intro t s
    unfold decodeFrameType
    split
    · rfl
    · split
      · rfl
      · split
        · rfl
        · split
          · rfl
          · split
            · rfl
            · split <;> rfl
  rw [low]
  congr 1
  revert t
  decide

/-- With nothing presented a step changes nothing (60_exceptions.md R232). -/
theorem step_of_no_input {s : State} (h : s.inputs = []) : step s = .next s := by
  simp [step, h]

/-- A step takes the next item of the host's stream off and applies it. -/
theorem step_of_input {s : State} {x : Input} {rest : List Input} (h : s.inputs = x :: rest) :
    step s = runInput x { s with inputs := rest } := by
  simp [step, h]

end Sys2Proof.Machine
end

