-- ==== Sys2Proof/Laws/PerInstr.lean ====
section
/-! SUPPORT. One fact for every instruction, a lemma per constructor: its encoding carries the bits that
spec/opcode_table.json fixes for its row. -/

namespace Sys2Proof.Laws.TableRow

/-- The encoding of `i` matches its row of the opcode table under the row's mask, in the row's form. -/
def Statement (i : Instr) : Prop :=
  i.row.fits (encode i).bits = true ∧ (i.row.frameOctet = true ↔ ∃ t, encode i = .frameType t)

theorem rxNone : Statement .rxNone := ⟨rfl, by simp [Instr.row, encode]⟩

theorem rxByte (v : Octet) : Statement (.rxByte v) :=
  ⟨by revert v; decide, by simp [Instr.row, encode]⟩

theorem rxError : Statement .rxError := ⟨rfl, by simp [Instr.row, encode]⟩

theorem tick : Statement .tick := ⟨rfl, by simp [Instr.row, encode]⟩

theorem masterStep : Statement .masterStep := ⟨rfl, by simp [Instr.row, encode]⟩

theorem txQueue (d : Descriptor) : Statement (.txQueue d) :=
  ⟨by simp [TableRow.fits, Instr.row, encode, Code.bits], by simp [Instr.row, encode]⟩

theorem reply (d : Descriptor) : Statement (.reply d) :=
  ⟨by simp [TableRow.fits, Instr.row, encode, Code.bits], by simp [Instr.row, encode]⟩

/-- The high part of a concatenation. -/
theorem high_of_append {n w : Nat} (hi : BitVec n) (lo : BitVec w) :
    (hi ++ lo).toNat / 2 ^ w = hi.toNat := by
  rw [BitVec.toNat_append, Nat.shiftLeft_eq, Nat.mul_comm, ← Nat.two_pow_add_eq_or_of_lt lo.isLt]
  rw [Nat.mul_add_div (Nat.two_pow_pos w), Nat.div_eq_of_lt lo.isLt, Nat.add_zero]

theorem reservedOp7 (low : BitVec 12) : Statement (.reservedOp7 low) := by
  refine ⟨?_, by simp [Instr.row, encode]⟩
  have h := high_of_append (0x7#4) low
  have hlt := ((0x7#4 ++ low : BitVec 16)).isLt
  simp only [TableRow.fits, Instr.row, encode, Code.bits, Command.plain, beq_iff_eq]
  generalize (0x7#4 ++ low : BitVec 16).toNat = x at *
  have key : x &&& 0xF000 = x / 2 ^ 12 * 2 ^ 12 := by
    apply Nat.eq_of_testBit_eq
    intro i
    rw [Nat.testBit_and, Nat.testBit_mul_two_pow, Nat.testBit_div_two_pow]
    by_cases hi : 12 ≤ i
    · by_cases h16 : i < 16
      · have : Nat.testBit 0xF000 i = true := by
          interval_cases i <;> rfl
        simp [hi, this, Nat.sub_add_cancel hi]
      · have : x.testBit i = false := Nat.testBit_lt_two_pow (Nat.lt_of_lt_of_le hlt (Nat.pow_le_pow_right (by omega) (by omega)))
        simp [hi, this, Nat.sub_add_cancel hi]
    · have : Nat.testBit 0xF000 i = false := by
        have : i < 12 := by omega
        interval_cases i <;> rfl
      simp [hi, this]
  rw [key, h]
  rfl

theorem reservedOp8F (low : BitVec 15) : Statement (.reservedOp8F low) := by
  refine ⟨?_, by simp [Instr.row, encode]⟩
  have h := high_of_append (1#1) low
  have hlt := ((1#1 ++ low : BitVec 16)).isLt
  simp only [TableRow.fits, Instr.row, encode, Code.bits, Command.plain, beq_iff_eq]
  generalize (1#1 ++ low : BitVec 16).toNat = x at *
  have key : x &&& 2 ^ 15 = (x.testBit 15).toNat * 2 ^ 15 := Nat.and_two_pow x 15
  have bit : x.testBit 15 = true := by
    rw [Nat.testBit_eq_decide_div_mod_eq, h]; rfl
  rw [show (0x8000 : Nat) = 2 ^ 15 from rfl, key, bit]
  rfl

theorem malformed (w : Word16) : Statement (.malformed w) :=
  ⟨by simp [TableRow.fits, Instr.row], by simp [Instr.row, encode]⟩

theorem ftToken : Statement .ftToken := ⟨rfl, by simp [Instr.row, encode]⟩

theorem ftPfm : Statement .ftPfm := ⟨rfl, by simp [Instr.row, encode]⟩

theorem ftRpfm : Statement .ftRpfm := ⟨rfl, by simp [Instr.row, encode]⟩

theorem ftTreq : Statement .ftTreq := ⟨rfl, by simp [Instr.row, encode]⟩

theorem ftTrsp : Statement .ftTrsp := ⟨rfl, by simp [Instr.row, encode]⟩

theorem ftDer : Statement .ftDer := ⟨rfl, by simp [Instr.row, encode]⟩

theorem ftDner : Statement .ftDner := ⟨rfl, by simp [Instr.row, encode]⟩

theorem ftRp : Statement .ftRp := ⟨rfl, by simp [Instr.row, encode]⟩

theorem ftReserved08 (k : BitVec 3) : Statement (.ftReserved08 k) :=
  ⟨by revert k; decide, by simp [Instr.row, encode]⟩

theorem ftReserved10 (k : BitVec 4) : Statement (.ftReserved10 k) :=
  ⟨by revert k; decide, by simp [Instr.row, encode]⟩

theorem ftReserved20 (k : BitVec 5) : Statement (.ftReserved20 k) :=
  ⟨by revert k; decide, by simp [Instr.row, encode]⟩

theorem ftReserved40 (k : BitVec 6) : Statement (.ftReserved40 k) :=
  ⟨by revert k; decide, by simp [Instr.row, encode]⟩

theorem ftProprietary (k : BitVec 7) : Statement (.ftProprietary k) :=
  ⟨by revert k; decide, by simp [Instr.row, encode]⟩

end Sys2Proof.Laws.TableRow
end

