-- ==== Sys2Proof/Laws/Receive.lean ====
section
/-! SUPPORT. Which fields the receiver's phases never write, one lemma per field (41_receive_fsm.md R118), so that no later proof
unfolds a phase to learn that it leaves a field alone. -/

namespace Sys2Proof.Machine

/-! The timeout phase (41_receive_fsm.md R100). -/

@[simp] theorem timeoutPhase_cfg (s : State) : (timeoutPhase s).cfg = s.cfg := by
  unfold timeoutPhase; split; (split <;> rfl); rfl
@[simp] theorem timeoutPhase_rxIndex (s : State) : (timeoutPhase s).rxIndex = s.rxIndex := by
  unfold timeoutPhase; split; (split <;> rfl); rfl
@[simp] theorem timeoutPhase_rxHcrc (s : State) : (timeoutPhase s).rxHcrc = s.rxHcrc := by
  unfold timeoutPhase; split; (split <;> rfl); rfl
@[simp] theorem timeoutPhase_rxDcrc (s : State) : (timeoutPhase s).rxDcrc = s.rxDcrc := by
  unfold timeoutPhase; split; (split <;> rfl); rfl
@[simp] theorem timeoutPhase_rxType (s : State) : (timeoutPhase s).rxType = s.rxType := by
  unfold timeoutPhase; split; (split <;> rfl); rfl
@[simp] theorem timeoutPhase_rxDest (s : State) : (timeoutPhase s).rxDest = s.rxDest := by
  unfold timeoutPhase; split; (split <;> rfl); rfl
@[simp] theorem timeoutPhase_rxSrc (s : State) : (timeoutPhase s).rxSrc = s.rxSrc := by
  unfold timeoutPhase; split; (split <;> rfl); rfl
@[simp] theorem timeoutPhase_rxLen (s : State) : (timeoutPhase s).rxLen = s.rxLen := by
  unfold timeoutPhase; split; (split <;> rfl); rfl
@[simp] theorem timeoutPhase_rxBuf (s : State) : (timeoutPhase s).rxBuf = s.rxBuf := by
  unfold timeoutPhase; split; (split <;> rfl); rfl
@[simp] theorem timeoutPhase_frType (s : State) : (timeoutPhase s).frType = s.frType := by
  unfold timeoutPhase; split; (split <;> rfl); rfl
@[simp] theorem timeoutPhase_frDest (s : State) : (timeoutPhase s).frDest = s.frDest := by
  unfold timeoutPhase; split; (split <;> rfl); rfl
@[simp] theorem timeoutPhase_frSrc (s : State) : (timeoutPhase s).frSrc = s.frSrc := by
  unfold timeoutPhase; split; (split <;> rfl); rfl
@[simp] theorem timeoutPhase_frLen (s : State) : (timeoutPhase s).frLen = s.frLen := by
  unfold timeoutPhase; split; (split <;> rfl); rfl
@[simp] theorem timeoutPhase_tkState (s : State) : (timeoutPhase s).tkState = s.tkState := by
  unfold timeoutPhase; split; (split <;> rfl); rfl
@[simp] theorem timeoutPhase_ns (s : State) : (timeoutPhase s).ns = s.ns := by
  unfold timeoutPhase; split; (split <;> rfl); rfl
@[simp] theorem timeoutPhase_ps (s : State) : (timeoutPhase s).ps = s.ps := by
  unfold timeoutPhase; split; (split <;> rfl); rfl
@[simp] theorem timeoutPhase_soleMaster (s : State) : (timeoutPhase s).soleMaster = s.soleMaster := by
  unfold timeoutPhase; split; (split <;> rfl); rfl
@[simp] theorem timeoutPhase_tokenCount (s : State) : (timeoutPhase s).tokenCount = s.tokenCount := by
  unfold timeoutPhase; split; (split <;> rfl); rfl
@[simp] theorem timeoutPhase_frameCount (s : State) : (timeoutPhase s).frameCount = s.frameCount := by
  unfold timeoutPhase; split; (split <;> rfl); rfl
@[simp] theorem timeoutPhase_retryCount (s : State) : (timeoutPhase s).retryCount = s.retryCount := by
  unfold timeoutPhase; split; (split <;> rfl); rfl
@[simp] theorem timeoutPhase_eventCount (s : State) : (timeoutPhase s).eventCount = s.eventCount := by
  unfold timeoutPhase; split; (split <;> rfl); rfl
@[simp] theorem timeoutPhase_reqSrc (s : State) : (timeoutPhase s).reqSrc = s.reqSrc := by
  unfold timeoutPhase; split; (split <;> rfl); rfl
@[simp] theorem timeoutPhase_reqType (s : State) : (timeoutPhase s).reqType = s.reqType := by
  unfold timeoutPhase; split; (split <;> rfl); rfl
@[simp] theorem timeoutPhase_waitType (s : State) : (timeoutPhase s).waitType = s.waitType := by
  unfold timeoutPhase; split; (split <;> rfl); rfl
@[simp] theorem timeoutPhase_silence (s : State) : (timeoutPhase s).silence = s.silence := by
  unfold timeoutPhase; split; (split <;> rfl); rfl
@[simp] theorem timeoutPhase_replyTimer (s : State) : (timeoutPhase s).replyTimer = s.replyTimer := by
  unfold timeoutPhase; split; (split <;> rfl); rfl
@[simp] theorem timeoutPhase_txqValid (s : State) : (timeoutPhase s).txqValid = s.txqValid := by
  unfold timeoutPhase; split; (split <;> rfl); rfl
@[simp] theorem timeoutPhase_txqType (s : State) : (timeoutPhase s).txqType = s.txqType := by
  unfold timeoutPhase; split; (split <;> rfl); rfl
@[simp] theorem timeoutPhase_txqDest (s : State) : (timeoutPhase s).txqDest = s.txqDest := by
  unfold timeoutPhase; split; (split <;> rfl); rfl
@[simp] theorem timeoutPhase_txqLen (s : State) : (timeoutPhase s).txqLen = s.txqLen := by
  unfold timeoutPhase; split; (split <;> rfl); rfl
@[simp] theorem timeoutPhase_txqData (s : State) : (timeoutPhase s).txqData = s.txqData := by
  unfold timeoutPhase; split; (split <;> rfl); rfl
@[simp] theorem timeoutPhase_rplValid (s : State) : (timeoutPhase s).rplValid = s.rplValid := by
  unfold timeoutPhase; split; (split <;> rfl); rfl
@[simp] theorem timeoutPhase_rplType (s : State) : (timeoutPhase s).rplType = s.rplType := by
  unfold timeoutPhase; split; (split <;> rfl); rfl
@[simp] theorem timeoutPhase_rplLen (s : State) : (timeoutPhase s).rplLen = s.rplLen := by
  unfold timeoutPhase; split; (split <;> rfl); rfl
@[simp] theorem timeoutPhase_rplData (s : State) : (timeoutPhase s).rplData = s.rplData := by
  unfold timeoutPhase; split; (split <;> rfl); rfl
@[simp] theorem timeoutPhase_inputs (s : State) : (timeoutPhase s).inputs = s.inputs := by
  unfold timeoutPhase; split; (split <;> rfl); rfl
@[simp] theorem timeoutPhase_events (s : State) : (timeoutPhase s).events = s.events := by
  unfold timeoutPhase; split; (split <;> rfl); rfl

/-! An octet in Idle (41_receive_fsm.md R101, R102). -/

@[simp] theorem idleByte_cfg (v : Octet) (s : State) : (idleByte v s).cfg = s.cfg := by
  unfold idleByte; split <;> rfl
@[simp] theorem idleByte_rxIndex (v : Octet) (s : State) : (idleByte v s).rxIndex = s.rxIndex := by
  unfold idleByte; split <;> rfl
@[simp] theorem idleByte_rxHcrc (v : Octet) (s : State) : (idleByte v s).rxHcrc = s.rxHcrc := by
  unfold idleByte; split <;> rfl
@[simp] theorem idleByte_rxDcrc (v : Octet) (s : State) : (idleByte v s).rxDcrc = s.rxDcrc := by
  unfold idleByte; split <;> rfl
@[simp] theorem idleByte_rxType (v : Octet) (s : State) : (idleByte v s).rxType = s.rxType := by
  unfold idleByte; split <;> rfl
@[simp] theorem idleByte_rxDest (v : Octet) (s : State) : (idleByte v s).rxDest = s.rxDest := by
  unfold idleByte; split <;> rfl
@[simp] theorem idleByte_rxSrc (v : Octet) (s : State) : (idleByte v s).rxSrc = s.rxSrc := by
  unfold idleByte; split <;> rfl
@[simp] theorem idleByte_rxLen (v : Octet) (s : State) : (idleByte v s).rxLen = s.rxLen := by
  unfold idleByte; split <;> rfl
@[simp] theorem idleByte_rxBuf (v : Octet) (s : State) : (idleByte v s).rxBuf = s.rxBuf := by
  unfold idleByte; split <;> rfl
@[simp] theorem idleByte_frType (v : Octet) (s : State) : (idleByte v s).frType = s.frType := by
  unfold idleByte; split <;> rfl
@[simp] theorem idleByte_frDest (v : Octet) (s : State) : (idleByte v s).frDest = s.frDest := by
  unfold idleByte; split <;> rfl
@[simp] theorem idleByte_frSrc (v : Octet) (s : State) : (idleByte v s).frSrc = s.frSrc := by
  unfold idleByte; split <;> rfl
@[simp] theorem idleByte_frLen (v : Octet) (s : State) : (idleByte v s).frLen = s.frLen := by
  unfold idleByte; split <;> rfl
@[simp] theorem idleByte_rvf (v : Octet) (s : State) : (idleByte v s).rvf = s.rvf := by
  unfold idleByte; split <;> rfl
@[simp] theorem idleByte_rif (v : Octet) (s : State) : (idleByte v s).rif = s.rif := by
  unfold idleByte; split <;> rfl
@[simp] theorem idleByte_tkState (v : Octet) (s : State) : (idleByte v s).tkState = s.tkState := by
  unfold idleByte; split <;> rfl
@[simp] theorem idleByte_ns (v : Octet) (s : State) : (idleByte v s).ns = s.ns := by
  unfold idleByte; split <;> rfl
@[simp] theorem idleByte_ps (v : Octet) (s : State) : (idleByte v s).ps = s.ps := by
  unfold idleByte; split <;> rfl
@[simp] theorem idleByte_soleMaster (v : Octet) (s : State) : (idleByte v s).soleMaster = s.soleMaster := by
  unfold idleByte; split <;> rfl
@[simp] theorem idleByte_tokenCount (v : Octet) (s : State) : (idleByte v s).tokenCount = s.tokenCount := by
  unfold idleByte; split <;> rfl
@[simp] theorem idleByte_frameCount (v : Octet) (s : State) : (idleByte v s).frameCount = s.frameCount := by
  unfold idleByte; split <;> rfl
@[simp] theorem idleByte_retryCount (v : Octet) (s : State) : (idleByte v s).retryCount = s.retryCount := by
  unfold idleByte; split <;> rfl
@[simp] theorem idleByte_eventCount (v : Octet) (s : State) : (idleByte v s).eventCount = s.eventCount := by
  unfold idleByte; split <;> rfl
@[simp] theorem idleByte_reqSrc (v : Octet) (s : State) : (idleByte v s).reqSrc = s.reqSrc := by
  unfold idleByte; split <;> rfl
@[simp] theorem idleByte_reqType (v : Octet) (s : State) : (idleByte v s).reqType = s.reqType := by
  unfold idleByte; split <;> rfl
@[simp] theorem idleByte_waitType (v : Octet) (s : State) : (idleByte v s).waitType = s.waitType := by
  unfold idleByte; split <;> rfl
@[simp] theorem idleByte_silence (v : Octet) (s : State) : (idleByte v s).silence = s.silence := by
  unfold idleByte; split <;> rfl
@[simp] theorem idleByte_replyTimer (v : Octet) (s : State) : (idleByte v s).replyTimer = s.replyTimer := by
  unfold idleByte; split <;> rfl
@[simp] theorem idleByte_txqValid (v : Octet) (s : State) : (idleByte v s).txqValid = s.txqValid := by
  unfold idleByte; split <;> rfl
@[simp] theorem idleByte_txqType (v : Octet) (s : State) : (idleByte v s).txqType = s.txqType := by
  unfold idleByte; split <;> rfl
@[simp] theorem idleByte_txqDest (v : Octet) (s : State) : (idleByte v s).txqDest = s.txqDest := by
  unfold idleByte; split <;> rfl
@[simp] theorem idleByte_txqLen (v : Octet) (s : State) : (idleByte v s).txqLen = s.txqLen := by
  unfold idleByte; split <;> rfl
@[simp] theorem idleByte_txqData (v : Octet) (s : State) : (idleByte v s).txqData = s.txqData := by
  unfold idleByte; split <;> rfl
@[simp] theorem idleByte_rplValid (v : Octet) (s : State) : (idleByte v s).rplValid = s.rplValid := by
  unfold idleByte; split <;> rfl
@[simp] theorem idleByte_rplType (v : Octet) (s : State) : (idleByte v s).rplType = s.rplType := by
  unfold idleByte; split <;> rfl
@[simp] theorem idleByte_rplLen (v : Octet) (s : State) : (idleByte v s).rplLen = s.rplLen := by
  unfold idleByte; split <;> rfl
@[simp] theorem idleByte_rplData (v : Octet) (s : State) : (idleByte v s).rplData = s.rplData := by
  unfold idleByte; split <;> rfl
@[simp] theorem idleByte_status (v : Octet) (s : State) : (idleByte v s).status = s.status := by
  unfold idleByte; split <;> rfl
@[simp] theorem idleByte_inputs (v : Octet) (s : State) : (idleByte v s).inputs = s.inputs := by
  unfold idleByte; split <;> rfl
@[simp] theorem idleByte_events (v : Octet) (s : State) : (idleByte v s).events = s.events := by
  unfold idleByte; split <;> rfl

/-! An octet in Preamble (41_receive_fsm.md R103 to R105). -/

@[simp] theorem preambleByte_cfg (v : Octet) (s : State) : (preambleByte v s).cfg = s.cfg := by
  unfold preambleByte; split; rfl; split <;> rfl
@[simp] theorem preambleByte_rxDcrc (v : Octet) (s : State) : (preambleByte v s).rxDcrc = s.rxDcrc := by
  unfold preambleByte; split; rfl; split <;> rfl
@[simp] theorem preambleByte_rxType (v : Octet) (s : State) : (preambleByte v s).rxType = s.rxType := by
  unfold preambleByte; split; rfl; split <;> rfl
@[simp] theorem preambleByte_rxDest (v : Octet) (s : State) : (preambleByte v s).rxDest = s.rxDest := by
  unfold preambleByte; split; rfl; split <;> rfl
@[simp] theorem preambleByte_rxSrc (v : Octet) (s : State) : (preambleByte v s).rxSrc = s.rxSrc := by
  unfold preambleByte; split; rfl; split <;> rfl
@[simp] theorem preambleByte_rxLen (v : Octet) (s : State) : (preambleByte v s).rxLen = s.rxLen := by
  unfold preambleByte; split; rfl; split <;> rfl
@[simp] theorem preambleByte_rxBuf (v : Octet) (s : State) : (preambleByte v s).rxBuf = s.rxBuf := by
  unfold preambleByte; split; rfl; split <;> rfl
@[simp] theorem preambleByte_frType (v : Octet) (s : State) : (preambleByte v s).frType = s.frType := by
  unfold preambleByte; split; rfl; split <;> rfl
@[simp] theorem preambleByte_frDest (v : Octet) (s : State) : (preambleByte v s).frDest = s.frDest := by
  unfold preambleByte; split; rfl; split <;> rfl
@[simp] theorem preambleByte_frSrc (v : Octet) (s : State) : (preambleByte v s).frSrc = s.frSrc := by
  unfold preambleByte; split; rfl; split <;> rfl
@[simp] theorem preambleByte_frLen (v : Octet) (s : State) : (preambleByte v s).frLen = s.frLen := by
  unfold preambleByte; split; rfl; split <;> rfl
@[simp] theorem preambleByte_rvf (v : Octet) (s : State) : (preambleByte v s).rvf = s.rvf := by
  unfold preambleByte; split; rfl; split <;> rfl
@[simp] theorem preambleByte_rif (v : Octet) (s : State) : (preambleByte v s).rif = s.rif := by
  unfold preambleByte; split; rfl; split <;> rfl
@[simp] theorem preambleByte_tkState (v : Octet) (s : State) : (preambleByte v s).tkState = s.tkState := by
  unfold preambleByte; split; rfl; split <;> rfl
@[simp] theorem preambleByte_ns (v : Octet) (s : State) : (preambleByte v s).ns = s.ns := by
  unfold preambleByte; split; rfl; split <;> rfl
@[simp] theorem preambleByte_ps (v : Octet) (s : State) : (preambleByte v s).ps = s.ps := by
  unfold preambleByte; split; rfl; split <;> rfl
@[simp] theorem preambleByte_soleMaster (v : Octet) (s : State) : (preambleByte v s).soleMaster = s.soleMaster := by
  unfold preambleByte; split; rfl; split <;> rfl
@[simp] theorem preambleByte_tokenCount (v : Octet) (s : State) : (preambleByte v s).tokenCount = s.tokenCount := by
  unfold preambleByte; split; rfl; split <;> rfl
@[simp] theorem preambleByte_frameCount (v : Octet) (s : State) : (preambleByte v s).frameCount = s.frameCount := by
  unfold preambleByte; split; rfl; split <;> rfl
@[simp] theorem preambleByte_retryCount (v : Octet) (s : State) : (preambleByte v s).retryCount = s.retryCount := by
  unfold preambleByte; split; rfl; split <;> rfl
@[simp] theorem preambleByte_eventCount (v : Octet) (s : State) : (preambleByte v s).eventCount = s.eventCount := by
  unfold preambleByte; split; rfl; split <;> rfl
@[simp] theorem preambleByte_reqSrc (v : Octet) (s : State) : (preambleByte v s).reqSrc = s.reqSrc := by
  unfold preambleByte; split; rfl; split <;> rfl
@[simp] theorem preambleByte_reqType (v : Octet) (s : State) : (preambleByte v s).reqType = s.reqType := by
  unfold preambleByte; split; rfl; split <;> rfl
@[simp] theorem preambleByte_waitType (v : Octet) (s : State) : (preambleByte v s).waitType = s.waitType := by
  unfold preambleByte; split; rfl; split <;> rfl
@[simp] theorem preambleByte_silence (v : Octet) (s : State) : (preambleByte v s).silence = s.silence := by
  unfold preambleByte; split; rfl; split <;> rfl
@[simp] theorem preambleByte_replyTimer (v : Octet) (s : State) : (preambleByte v s).replyTimer = s.replyTimer := by
  unfold preambleByte; split; rfl; split <;> rfl
@[simp] theorem preambleByte_txqValid (v : Octet) (s : State) : (preambleByte v s).txqValid = s.txqValid := by
  unfold preambleByte; split; rfl; split <;> rfl
@[simp] theorem preambleByte_txqType (v : Octet) (s : State) : (preambleByte v s).txqType = s.txqType := by
  unfold preambleByte; split; rfl; split <;> rfl
@[simp] theorem preambleByte_txqDest (v : Octet) (s : State) : (preambleByte v s).txqDest = s.txqDest := by
  unfold preambleByte; split; rfl; split <;> rfl
@[simp] theorem preambleByte_txqLen (v : Octet) (s : State) : (preambleByte v s).txqLen = s.txqLen := by
  unfold preambleByte; split; rfl; split <;> rfl
@[simp] theorem preambleByte_txqData (v : Octet) (s : State) : (preambleByte v s).txqData = s.txqData := by
  unfold preambleByte; split; rfl; split <;> rfl
@[simp] theorem preambleByte_rplValid (v : Octet) (s : State) : (preambleByte v s).rplValid = s.rplValid := by
  unfold preambleByte; split; rfl; split <;> rfl
@[simp] theorem preambleByte_rplType (v : Octet) (s : State) : (preambleByte v s).rplType = s.rplType := by
  unfold preambleByte; split; rfl; split <;> rfl
@[simp] theorem preambleByte_rplLen (v : Octet) (s : State) : (preambleByte v s).rplLen = s.rplLen := by
  unfold preambleByte; split; rfl; split <;> rfl
@[simp] theorem preambleByte_rplData (v : Octet) (s : State) : (preambleByte v s).rplData = s.rplData := by
  unfold preambleByte; split; rfl; split <;> rfl
@[simp] theorem preambleByte_status (v : Octet) (s : State) : (preambleByte v s).status = s.status := by
  unfold preambleByte; split; rfl; split <;> rfl
@[simp] theorem preambleByte_inputs (v : Octet) (s : State) : (preambleByte v s).inputs = s.inputs := by
  unfold preambleByte; split; rfl; split <;> rfl
@[simp] theorem preambleByte_events (v : Octet) (s : State) : (preambleByte v s).events = s.events := by
  unfold preambleByte; split; rfl; split <;> rfl

/-! A header octet stored (41_receive_fsm.md R107). -/

@[simp] theorem storeHeader_cfg (v : Octet) (s : State) : (storeHeader v s).cfg = s.cfg := by
  unfold storeHeader; split <;> rfl
@[simp] theorem storeHeader_rxState (v : Octet) (s : State) : (storeHeader v s).rxState = s.rxState := by
  unfold storeHeader; split <;> rfl
@[simp] theorem storeHeader_rxIndex (v : Octet) (s : State) : (storeHeader v s).rxIndex = s.rxIndex := by
  unfold storeHeader; split <;> rfl
@[simp] theorem storeHeader_rxHcrc (v : Octet) (s : State) : (storeHeader v s).rxHcrc = s.rxHcrc := by
  unfold storeHeader; split <;> rfl
@[simp] theorem storeHeader_rxDcrc (v : Octet) (s : State) : (storeHeader v s).rxDcrc = s.rxDcrc := by
  unfold storeHeader; split <;> rfl
@[simp] theorem storeHeader_rxBuf (v : Octet) (s : State) : (storeHeader v s).rxBuf = s.rxBuf := by
  unfold storeHeader; split <;> rfl
@[simp] theorem storeHeader_frType (v : Octet) (s : State) : (storeHeader v s).frType = s.frType := by
  unfold storeHeader; split <;> rfl
@[simp] theorem storeHeader_frDest (v : Octet) (s : State) : (storeHeader v s).frDest = s.frDest := by
  unfold storeHeader; split <;> rfl
@[simp] theorem storeHeader_frSrc (v : Octet) (s : State) : (storeHeader v s).frSrc = s.frSrc := by
  unfold storeHeader; split <;> rfl
@[simp] theorem storeHeader_frLen (v : Octet) (s : State) : (storeHeader v s).frLen = s.frLen := by
  unfold storeHeader; split <;> rfl
@[simp] theorem storeHeader_rvf (v : Octet) (s : State) : (storeHeader v s).rvf = s.rvf := by
  unfold storeHeader; split <;> rfl
@[simp] theorem storeHeader_rif (v : Octet) (s : State) : (storeHeader v s).rif = s.rif := by
  unfold storeHeader; split <;> rfl
@[simp] theorem storeHeader_tkState (v : Octet) (s : State) : (storeHeader v s).tkState = s.tkState := by
  unfold storeHeader; split <;> rfl
@[simp] theorem storeHeader_ns (v : Octet) (s : State) : (storeHeader v s).ns = s.ns := by
  unfold storeHeader; split <;> rfl
@[simp] theorem storeHeader_ps (v : Octet) (s : State) : (storeHeader v s).ps = s.ps := by
  unfold storeHeader; split <;> rfl
@[simp] theorem storeHeader_soleMaster (v : Octet) (s : State) : (storeHeader v s).soleMaster = s.soleMaster := by
  unfold storeHeader; split <;> rfl
@[simp] theorem storeHeader_tokenCount (v : Octet) (s : State) : (storeHeader v s).tokenCount = s.tokenCount := by
  unfold storeHeader; split <;> rfl
@[simp] theorem storeHeader_frameCount (v : Octet) (s : State) : (storeHeader v s).frameCount = s.frameCount := by
  unfold storeHeader; split <;> rfl
@[simp] theorem storeHeader_retryCount (v : Octet) (s : State) : (storeHeader v s).retryCount = s.retryCount := by
  unfold storeHeader; split <;> rfl
@[simp] theorem storeHeader_eventCount (v : Octet) (s : State) : (storeHeader v s).eventCount = s.eventCount := by
  unfold storeHeader; split <;> rfl
@[simp] theorem storeHeader_reqSrc (v : Octet) (s : State) : (storeHeader v s).reqSrc = s.reqSrc := by
  unfold storeHeader; split <;> rfl
@[simp] theorem storeHeader_reqType (v : Octet) (s : State) : (storeHeader v s).reqType = s.reqType := by
  unfold storeHeader; split <;> rfl
@[simp] theorem storeHeader_waitType (v : Octet) (s : State) : (storeHeader v s).waitType = s.waitType := by
  unfold storeHeader; split <;> rfl
@[simp] theorem storeHeader_silence (v : Octet) (s : State) : (storeHeader v s).silence = s.silence := by
  unfold storeHeader; split <;> rfl
@[simp] theorem storeHeader_replyTimer (v : Octet) (s : State) : (storeHeader v s).replyTimer = s.replyTimer := by
  unfold storeHeader; split <;> rfl
@[simp] theorem storeHeader_txqValid (v : Octet) (s : State) : (storeHeader v s).txqValid = s.txqValid := by
  unfold storeHeader; split <;> rfl
@[simp] theorem storeHeader_txqType (v : Octet) (s : State) : (storeHeader v s).txqType = s.txqType := by
  unfold storeHeader; split <;> rfl
@[simp] theorem storeHeader_txqDest (v : Octet) (s : State) : (storeHeader v s).txqDest = s.txqDest := by
  unfold storeHeader; split <;> rfl
@[simp] theorem storeHeader_txqLen (v : Octet) (s : State) : (storeHeader v s).txqLen = s.txqLen := by
  unfold storeHeader; split <;> rfl
@[simp] theorem storeHeader_txqData (v : Octet) (s : State) : (storeHeader v s).txqData = s.txqData := by
  unfold storeHeader; split <;> rfl
@[simp] theorem storeHeader_rplValid (v : Octet) (s : State) : (storeHeader v s).rplValid = s.rplValid := by
  unfold storeHeader; split <;> rfl
@[simp] theorem storeHeader_rplType (v : Octet) (s : State) : (storeHeader v s).rplType = s.rplType := by
  unfold storeHeader; split <;> rfl
@[simp] theorem storeHeader_rplLen (v : Octet) (s : State) : (storeHeader v s).rplLen = s.rplLen := by
  unfold storeHeader; split <;> rfl
@[simp] theorem storeHeader_rplData (v : Octet) (s : State) : (storeHeader v s).rplData = s.rplData := by
  unfold storeHeader; split <;> rfl
@[simp] theorem storeHeader_status (v : Octet) (s : State) : (storeHeader v s).status = s.status := by
  unfold storeHeader; split <;> rfl
@[simp] theorem storeHeader_inputs (v : Octet) (s : State) : (storeHeader v s).inputs = s.inputs := by
  unfold storeHeader; split <;> rfl
@[simp] theorem storeHeader_events (v : Octet) (s : State) : (storeHeader v s).events = s.events := by
  unfold storeHeader; split <;> rfl

/-! HeaderCrc (41_receive_fsm.md R110). -/

@[simp] theorem headerCrcPhase_cfg (s : State) : (headerCrcPhase s).cfg = s.cfg := by
  unfold headerCrcPhase; (repeat' split) <;> rfl
@[simp] theorem headerCrcPhase_rxHcrc (s : State) : (headerCrcPhase s).rxHcrc = s.rxHcrc := by
  unfold headerCrcPhase; (repeat' split) <;> rfl
@[simp] theorem headerCrcPhase_rxType (s : State) : (headerCrcPhase s).rxType = s.rxType := by
  unfold headerCrcPhase; (repeat' split) <;> rfl
@[simp] theorem headerCrcPhase_rxDest (s : State) : (headerCrcPhase s).rxDest = s.rxDest := by
  unfold headerCrcPhase; (repeat' split) <;> rfl
@[simp] theorem headerCrcPhase_rxSrc (s : State) : (headerCrcPhase s).rxSrc = s.rxSrc := by
  unfold headerCrcPhase; (repeat' split) <;> rfl
@[simp] theorem headerCrcPhase_rxLen (s : State) : (headerCrcPhase s).rxLen = s.rxLen := by
  unfold headerCrcPhase; (repeat' split) <;> rfl
@[simp] theorem headerCrcPhase_rxBuf (s : State) : (headerCrcPhase s).rxBuf = s.rxBuf := by
  unfold headerCrcPhase; (repeat' split) <;> rfl
@[simp] theorem headerCrcPhase_tkState (s : State) : (headerCrcPhase s).tkState = s.tkState := by
  unfold headerCrcPhase; (repeat' split) <;> rfl
@[simp] theorem headerCrcPhase_ns (s : State) : (headerCrcPhase s).ns = s.ns := by
  unfold headerCrcPhase; (repeat' split) <;> rfl
@[simp] theorem headerCrcPhase_ps (s : State) : (headerCrcPhase s).ps = s.ps := by
  unfold headerCrcPhase; (repeat' split) <;> rfl
@[simp] theorem headerCrcPhase_soleMaster (s : State) : (headerCrcPhase s).soleMaster = s.soleMaster := by
  unfold headerCrcPhase; (repeat' split) <;> rfl
@[simp] theorem headerCrcPhase_tokenCount (s : State) : (headerCrcPhase s).tokenCount = s.tokenCount := by
  unfold headerCrcPhase; (repeat' split) <;> rfl
@[simp] theorem headerCrcPhase_frameCount (s : State) : (headerCrcPhase s).frameCount = s.frameCount := by
  unfold headerCrcPhase; (repeat' split) <;> rfl
@[simp] theorem headerCrcPhase_retryCount (s : State) : (headerCrcPhase s).retryCount = s.retryCount := by
  unfold headerCrcPhase; (repeat' split) <;> rfl
@[simp] theorem headerCrcPhase_eventCount (s : State) : (headerCrcPhase s).eventCount = s.eventCount := by
  unfold headerCrcPhase; (repeat' split) <;> rfl
@[simp] theorem headerCrcPhase_reqSrc (s : State) : (headerCrcPhase s).reqSrc = s.reqSrc := by
  unfold headerCrcPhase; (repeat' split) <;> rfl
@[simp] theorem headerCrcPhase_reqType (s : State) : (headerCrcPhase s).reqType = s.reqType := by
  unfold headerCrcPhase; (repeat' split) <;> rfl
@[simp] theorem headerCrcPhase_waitType (s : State) : (headerCrcPhase s).waitType = s.waitType := by
  unfold headerCrcPhase; (repeat' split) <;> rfl
@[simp] theorem headerCrcPhase_silence (s : State) : (headerCrcPhase s).silence = s.silence := by
  unfold headerCrcPhase; (repeat' split) <;> rfl
@[simp] theorem headerCrcPhase_replyTimer (s : State) : (headerCrcPhase s).replyTimer = s.replyTimer := by
  unfold headerCrcPhase; (repeat' split) <;> rfl
@[simp] theorem headerCrcPhase_txqValid (s : State) : (headerCrcPhase s).txqValid = s.txqValid := by
  unfold headerCrcPhase; (repeat' split) <;> rfl
@[simp] theorem headerCrcPhase_txqType (s : State) : (headerCrcPhase s).txqType = s.txqType := by
  unfold headerCrcPhase; (repeat' split) <;> rfl
@[simp] theorem headerCrcPhase_txqDest (s : State) : (headerCrcPhase s).txqDest = s.txqDest := by
  unfold headerCrcPhase; (repeat' split) <;> rfl
@[simp] theorem headerCrcPhase_txqLen (s : State) : (headerCrcPhase s).txqLen = s.txqLen := by
  unfold headerCrcPhase; (repeat' split) <;> rfl
@[simp] theorem headerCrcPhase_txqData (s : State) : (headerCrcPhase s).txqData = s.txqData := by
  unfold headerCrcPhase; (repeat' split) <;> rfl
@[simp] theorem headerCrcPhase_rplValid (s : State) : (headerCrcPhase s).rplValid = s.rplValid := by
  unfold headerCrcPhase; (repeat' split) <;> rfl
@[simp] theorem headerCrcPhase_rplType (s : State) : (headerCrcPhase s).rplType = s.rplType := by
  unfold headerCrcPhase; (repeat' split) <;> rfl
@[simp] theorem headerCrcPhase_rplLen (s : State) : (headerCrcPhase s).rplLen = s.rplLen := by
  unfold headerCrcPhase; (repeat' split) <;> rfl
@[simp] theorem headerCrcPhase_rplData (s : State) : (headerCrcPhase s).rplData = s.rplData := by
  unfold headerCrcPhase; (repeat' split) <;> rfl
@[simp] theorem headerCrcPhase_inputs (s : State) : (headerCrcPhase s).inputs = s.inputs := by
  unfold headerCrcPhase; (repeat' split) <;> rfl
@[simp] theorem headerCrcPhase_events (s : State) : (headerCrcPhase s).events = s.events := by
  unfold headerCrcPhase; (repeat' split) <;> rfl

/-! An octet in Header (41_receive_fsm.md R107). -/

@[simp] theorem headerByte_cfg (v : Octet) (s : State) : (headerByte v s).cfg = s.cfg := by
  unfold headerByte; dsimp only; split <;> simp
@[simp] theorem headerByte_rxBuf (v : Octet) (s : State) : (headerByte v s).rxBuf = s.rxBuf := by
  unfold headerByte; dsimp only; split <;> simp
@[simp] theorem headerByte_tkState (v : Octet) (s : State) : (headerByte v s).tkState = s.tkState := by
  unfold headerByte; dsimp only; split <;> simp
@[simp] theorem headerByte_ns (v : Octet) (s : State) : (headerByte v s).ns = s.ns := by
  unfold headerByte; dsimp only; split <;> simp
@[simp] theorem headerByte_ps (v : Octet) (s : State) : (headerByte v s).ps = s.ps := by
  unfold headerByte; dsimp only; split <;> simp
@[simp] theorem headerByte_soleMaster (v : Octet) (s : State) : (headerByte v s).soleMaster = s.soleMaster := by
  unfold headerByte; dsimp only; split <;> simp
@[simp] theorem headerByte_tokenCount (v : Octet) (s : State) : (headerByte v s).tokenCount = s.tokenCount := by
  unfold headerByte; dsimp only; split <;> simp
@[simp] theorem headerByte_frameCount (v : Octet) (s : State) : (headerByte v s).frameCount = s.frameCount := by
  unfold headerByte; dsimp only; split <;> simp
@[simp] theorem headerByte_retryCount (v : Octet) (s : State) : (headerByte v s).retryCount = s.retryCount := by
  unfold headerByte; dsimp only; split <;> simp
@[simp] theorem headerByte_eventCount (v : Octet) (s : State) : (headerByte v s).eventCount = s.eventCount := by
  unfold headerByte; dsimp only; split <;> simp
@[simp] theorem headerByte_reqSrc (v : Octet) (s : State) : (headerByte v s).reqSrc = s.reqSrc := by
  unfold headerByte; dsimp only; split <;> simp
@[simp] theorem headerByte_reqType (v : Octet) (s : State) : (headerByte v s).reqType = s.reqType := by
  unfold headerByte; dsimp only; split <;> simp
@[simp] theorem headerByte_waitType (v : Octet) (s : State) : (headerByte v s).waitType = s.waitType := by
  unfold headerByte; dsimp only; split <;> simp
@[simp] theorem headerByte_silence (v : Octet) (s : State) : (headerByte v s).silence = s.silence := by
  unfold headerByte; dsimp only; split <;> simp
@[simp] theorem headerByte_replyTimer (v : Octet) (s : State) : (headerByte v s).replyTimer = s.replyTimer := by
  unfold headerByte; dsimp only; split <;> simp
@[simp] theorem headerByte_txqValid (v : Octet) (s : State) : (headerByte v s).txqValid = s.txqValid := by
  unfold headerByte; dsimp only; split <;> simp
@[simp] theorem headerByte_txqType (v : Octet) (s : State) : (headerByte v s).txqType = s.txqType := by
  unfold headerByte; dsimp only; split <;> simp
@[simp] theorem headerByte_txqDest (v : Octet) (s : State) : (headerByte v s).txqDest = s.txqDest := by
  unfold headerByte; dsimp only; split <;> simp
@[simp] theorem headerByte_txqLen (v : Octet) (s : State) : (headerByte v s).txqLen = s.txqLen := by
  unfold headerByte; dsimp only; split <;> simp
@[simp] theorem headerByte_txqData (v : Octet) (s : State) : (headerByte v s).txqData = s.txqData := by
  unfold headerByte; dsimp only; split <;> simp
@[simp] theorem headerByte_rplValid (v : Octet) (s : State) : (headerByte v s).rplValid = s.rplValid := by
  unfold headerByte; dsimp only; split <;> simp
@[simp] theorem headerByte_rplType (v : Octet) (s : State) : (headerByte v s).rplType = s.rplType := by
  unfold headerByte; dsimp only; split <;> simp
@[simp] theorem headerByte_rplLen (v : Octet) (s : State) : (headerByte v s).rplLen = s.rplLen := by
  unfold headerByte; dsimp only; split <;> simp
@[simp] theorem headerByte_rplData (v : Octet) (s : State) : (headerByte v s).rplData = s.rplData := by
  unfold headerByte; dsimp only; split <;> simp
@[simp] theorem headerByte_inputs (v : Octet) (s : State) : (headerByte v s).inputs = s.inputs := by
  unfold headerByte; dsimp only; split <;> simp
@[simp] theorem headerByte_events (v : Octet) (s : State) : (headerByte v s).events = s.events := by
  unfold headerByte; dsimp only; split <;> simp

/-! DataCrc (41_receive_fsm.md R113). -/

@[simp] theorem dataCrcPhase_cfg (s : State) : (dataCrcPhase s).cfg = s.cfg := by
  unfold dataCrcPhase; split <;> rfl
@[simp] theorem dataCrcPhase_rxIndex (s : State) : (dataCrcPhase s).rxIndex = s.rxIndex := by
  unfold dataCrcPhase; split <;> rfl
@[simp] theorem dataCrcPhase_rxHcrc (s : State) : (dataCrcPhase s).rxHcrc = s.rxHcrc := by
  unfold dataCrcPhase; split <;> rfl
@[simp] theorem dataCrcPhase_rxDcrc (s : State) : (dataCrcPhase s).rxDcrc = s.rxDcrc := by
  unfold dataCrcPhase; split <;> rfl
@[simp] theorem dataCrcPhase_rxType (s : State) : (dataCrcPhase s).rxType = s.rxType := by
  unfold dataCrcPhase; split <;> rfl
@[simp] theorem dataCrcPhase_rxDest (s : State) : (dataCrcPhase s).rxDest = s.rxDest := by
  unfold dataCrcPhase; split <;> rfl
@[simp] theorem dataCrcPhase_rxSrc (s : State) : (dataCrcPhase s).rxSrc = s.rxSrc := by
  unfold dataCrcPhase; split <;> rfl
@[simp] theorem dataCrcPhase_rxLen (s : State) : (dataCrcPhase s).rxLen = s.rxLen := by
  unfold dataCrcPhase; split <;> rfl
@[simp] theorem dataCrcPhase_rxBuf (s : State) : (dataCrcPhase s).rxBuf = s.rxBuf := by
  unfold dataCrcPhase; split <;> rfl
@[simp] theorem dataCrcPhase_tkState (s : State) : (dataCrcPhase s).tkState = s.tkState := by
  unfold dataCrcPhase; split <;> rfl
@[simp] theorem dataCrcPhase_ns (s : State) : (dataCrcPhase s).ns = s.ns := by
  unfold dataCrcPhase; split <;> rfl
@[simp] theorem dataCrcPhase_ps (s : State) : (dataCrcPhase s).ps = s.ps := by
  unfold dataCrcPhase; split <;> rfl
@[simp] theorem dataCrcPhase_soleMaster (s : State) : (dataCrcPhase s).soleMaster = s.soleMaster := by
  unfold dataCrcPhase; split <;> rfl
@[simp] theorem dataCrcPhase_tokenCount (s : State) : (dataCrcPhase s).tokenCount = s.tokenCount := by
  unfold dataCrcPhase; split <;> rfl
@[simp] theorem dataCrcPhase_frameCount (s : State) : (dataCrcPhase s).frameCount = s.frameCount := by
  unfold dataCrcPhase; split <;> rfl
@[simp] theorem dataCrcPhase_retryCount (s : State) : (dataCrcPhase s).retryCount = s.retryCount := by
  unfold dataCrcPhase; split <;> rfl
@[simp] theorem dataCrcPhase_eventCount (s : State) : (dataCrcPhase s).eventCount = s.eventCount := by
  unfold dataCrcPhase; split <;> rfl
@[simp] theorem dataCrcPhase_reqSrc (s : State) : (dataCrcPhase s).reqSrc = s.reqSrc := by
  unfold dataCrcPhase; split <;> rfl
@[simp] theorem dataCrcPhase_reqType (s : State) : (dataCrcPhase s).reqType = s.reqType := by
  unfold dataCrcPhase; split <;> rfl
@[simp] theorem dataCrcPhase_waitType (s : State) : (dataCrcPhase s).waitType = s.waitType := by
  unfold dataCrcPhase; split <;> rfl
@[simp] theorem dataCrcPhase_silence (s : State) : (dataCrcPhase s).silence = s.silence := by
  unfold dataCrcPhase; split <;> rfl
@[simp] theorem dataCrcPhase_replyTimer (s : State) : (dataCrcPhase s).replyTimer = s.replyTimer := by
  unfold dataCrcPhase; split <;> rfl
@[simp] theorem dataCrcPhase_txqValid (s : State) : (dataCrcPhase s).txqValid = s.txqValid := by
  unfold dataCrcPhase; split <;> rfl
@[simp] theorem dataCrcPhase_txqType (s : State) : (dataCrcPhase s).txqType = s.txqType := by
  unfold dataCrcPhase; split <;> rfl
@[simp] theorem dataCrcPhase_txqDest (s : State) : (dataCrcPhase s).txqDest = s.txqDest := by
  unfold dataCrcPhase; split <;> rfl
@[simp] theorem dataCrcPhase_txqLen (s : State) : (dataCrcPhase s).txqLen = s.txqLen := by
  unfold dataCrcPhase; split <;> rfl
@[simp] theorem dataCrcPhase_txqData (s : State) : (dataCrcPhase s).txqData = s.txqData := by
  unfold dataCrcPhase; split <;> rfl
@[simp] theorem dataCrcPhase_rplValid (s : State) : (dataCrcPhase s).rplValid = s.rplValid := by
  unfold dataCrcPhase; split <;> rfl
@[simp] theorem dataCrcPhase_rplType (s : State) : (dataCrcPhase s).rplType = s.rplType := by
  unfold dataCrcPhase; split <;> rfl
@[simp] theorem dataCrcPhase_rplLen (s : State) : (dataCrcPhase s).rplLen = s.rplLen := by
  unfold dataCrcPhase; split <;> rfl
@[simp] theorem dataCrcPhase_rplData (s : State) : (dataCrcPhase s).rplData = s.rplData := by
  unfold dataCrcPhase; split <;> rfl
@[simp] theorem dataCrcPhase_inputs (s : State) : (dataCrcPhase s).inputs = s.inputs := by
  unfold dataCrcPhase; split <;> rfl
@[simp] theorem dataCrcPhase_events (s : State) : (dataCrcPhase s).events = s.events := by
  unfold dataCrcPhase; split <;> rfl

/-! An octet in Data, once stored (41_receive_fsm.md R111). -/

@[simp] theorem dataCount_cfg (v : Octet) (s : State) : (dataCount v s).cfg = s.cfg := by
  unfold dataCount; dsimp only; split <;> simp
@[simp] theorem dataCount_rxHcrc (v : Octet) (s : State) : (dataCount v s).rxHcrc = s.rxHcrc := by
  unfold dataCount; dsimp only; split <;> simp
@[simp] theorem dataCount_rxType (v : Octet) (s : State) : (dataCount v s).rxType = s.rxType := by
  unfold dataCount; dsimp only; split <;> simp
@[simp] theorem dataCount_rxDest (v : Octet) (s : State) : (dataCount v s).rxDest = s.rxDest := by
  unfold dataCount; dsimp only; split <;> simp
@[simp] theorem dataCount_rxSrc (v : Octet) (s : State) : (dataCount v s).rxSrc = s.rxSrc := by
  unfold dataCount; dsimp only; split <;> simp
@[simp] theorem dataCount_rxLen (v : Octet) (s : State) : (dataCount v s).rxLen = s.rxLen := by
  unfold dataCount; dsimp only; split <;> simp
@[simp] theorem dataCount_rxBuf (v : Octet) (s : State) : (dataCount v s).rxBuf = s.rxBuf := by
  unfold dataCount; dsimp only; split <;> simp
@[simp] theorem dataCount_tkState (v : Octet) (s : State) : (dataCount v s).tkState = s.tkState := by
  unfold dataCount; dsimp only; split <;> simp
@[simp] theorem dataCount_ns (v : Octet) (s : State) : (dataCount v s).ns = s.ns := by
  unfold dataCount; dsimp only; split <;> simp
@[simp] theorem dataCount_ps (v : Octet) (s : State) : (dataCount v s).ps = s.ps := by
  unfold dataCount; dsimp only; split <;> simp
@[simp] theorem dataCount_soleMaster (v : Octet) (s : State) : (dataCount v s).soleMaster = s.soleMaster := by
  unfold dataCount; dsimp only; split <;> simp
@[simp] theorem dataCount_tokenCount (v : Octet) (s : State) : (dataCount v s).tokenCount = s.tokenCount := by
  unfold dataCount; dsimp only; split <;> simp
@[simp] theorem dataCount_frameCount (v : Octet) (s : State) : (dataCount v s).frameCount = s.frameCount := by
  unfold dataCount; dsimp only; split <;> simp
@[simp] theorem dataCount_retryCount (v : Octet) (s : State) : (dataCount v s).retryCount = s.retryCount := by
  unfold dataCount; dsimp only; split <;> simp
@[simp] theorem dataCount_eventCount (v : Octet) (s : State) : (dataCount v s).eventCount = s.eventCount := by
  unfold dataCount; dsimp only; split <;> simp
@[simp] theorem dataCount_reqSrc (v : Octet) (s : State) : (dataCount v s).reqSrc = s.reqSrc := by
  unfold dataCount; dsimp only; split <;> simp
@[simp] theorem dataCount_reqType (v : Octet) (s : State) : (dataCount v s).reqType = s.reqType := by
  unfold dataCount; dsimp only; split <;> simp
@[simp] theorem dataCount_waitType (v : Octet) (s : State) : (dataCount v s).waitType = s.waitType := by
  unfold dataCount; dsimp only; split <;> simp
@[simp] theorem dataCount_silence (v : Octet) (s : State) : (dataCount v s).silence = s.silence := by
  unfold dataCount; dsimp only; split <;> simp
@[simp] theorem dataCount_replyTimer (v : Octet) (s : State) : (dataCount v s).replyTimer = s.replyTimer := by
  unfold dataCount; dsimp only; split <;> simp
@[simp] theorem dataCount_txqValid (v : Octet) (s : State) : (dataCount v s).txqValid = s.txqValid := by
  unfold dataCount; dsimp only; split <;> simp
@[simp] theorem dataCount_txqType (v : Octet) (s : State) : (dataCount v s).txqType = s.txqType := by
  unfold dataCount; dsimp only; split <;> simp
@[simp] theorem dataCount_txqDest (v : Octet) (s : State) : (dataCount v s).txqDest = s.txqDest := by
  unfold dataCount; dsimp only; split <;> simp
@[simp] theorem dataCount_txqLen (v : Octet) (s : State) : (dataCount v s).txqLen = s.txqLen := by
  unfold dataCount; dsimp only; split <;> simp
@[simp] theorem dataCount_txqData (v : Octet) (s : State) : (dataCount v s).txqData = s.txqData := by
  unfold dataCount; dsimp only; split <;> simp
@[simp] theorem dataCount_rplValid (v : Octet) (s : State) : (dataCount v s).rplValid = s.rplValid := by
  unfold dataCount; dsimp only; split <;> simp
@[simp] theorem dataCount_rplType (v : Octet) (s : State) : (dataCount v s).rplType = s.rplType := by
  unfold dataCount; dsimp only; split <;> simp
@[simp] theorem dataCount_rplLen (v : Octet) (s : State) : (dataCount v s).rplLen = s.rplLen := by
  unfold dataCount; dsimp only; split <;> simp
@[simp] theorem dataCount_rplData (v : Octet) (s : State) : (dataCount v s).rplData = s.rplData := by
  unfold dataCount; dsimp only; split <;> simp
@[simp] theorem dataCount_inputs (v : Octet) (s : State) : (dataCount v s).inputs = s.inputs := by
  unfold dataCount; dsimp only; split <;> simp
@[simp] theorem dataCount_events (v : Octet) (s : State) : (dataCount v s).events = s.events := by
  unfold dataCount; dsimp only; split <;> simp

/-! A receive error (41_receive_fsm.md R106, R108, R112). -/

@[simp] theorem receiveError_cfg (s : State) : (receiveError s).cfg = s.cfg := by
  unfold receiveError; split <;> rfl
@[simp] theorem receiveError_rxIndex (s : State) : (receiveError s).rxIndex = s.rxIndex := by
  unfold receiveError; split <;> rfl
@[simp] theorem receiveError_rxHcrc (s : State) : (receiveError s).rxHcrc = s.rxHcrc := by
  unfold receiveError; split <;> rfl
@[simp] theorem receiveError_rxDcrc (s : State) : (receiveError s).rxDcrc = s.rxDcrc := by
  unfold receiveError; split <;> rfl
@[simp] theorem receiveError_rxType (s : State) : (receiveError s).rxType = s.rxType := by
  unfold receiveError; split <;> rfl
@[simp] theorem receiveError_rxDest (s : State) : (receiveError s).rxDest = s.rxDest := by
  unfold receiveError; split <;> rfl
@[simp] theorem receiveError_rxSrc (s : State) : (receiveError s).rxSrc = s.rxSrc := by
  unfold receiveError; split <;> rfl
@[simp] theorem receiveError_rxLen (s : State) : (receiveError s).rxLen = s.rxLen := by
  unfold receiveError; split <;> rfl
@[simp] theorem receiveError_rxBuf (s : State) : (receiveError s).rxBuf = s.rxBuf := by
  unfold receiveError; split <;> rfl
@[simp] theorem receiveError_frType (s : State) : (receiveError s).frType = s.frType := by
  unfold receiveError; split <;> rfl
@[simp] theorem receiveError_frDest (s : State) : (receiveError s).frDest = s.frDest := by
  unfold receiveError; split <;> rfl
@[simp] theorem receiveError_frSrc (s : State) : (receiveError s).frSrc = s.frSrc := by
  unfold receiveError; split <;> rfl
@[simp] theorem receiveError_frLen (s : State) : (receiveError s).frLen = s.frLen := by
  unfold receiveError; split <;> rfl
@[simp] theorem receiveError_tkState (s : State) : (receiveError s).tkState = s.tkState := by
  unfold receiveError; split <;> rfl
@[simp] theorem receiveError_ns (s : State) : (receiveError s).ns = s.ns := by
  unfold receiveError; split <;> rfl
@[simp] theorem receiveError_ps (s : State) : (receiveError s).ps = s.ps := by
  unfold receiveError; split <;> rfl
@[simp] theorem receiveError_soleMaster (s : State) : (receiveError s).soleMaster = s.soleMaster := by
  unfold receiveError; split <;> rfl
@[simp] theorem receiveError_tokenCount (s : State) : (receiveError s).tokenCount = s.tokenCount := by
  unfold receiveError; split <;> rfl
@[simp] theorem receiveError_frameCount (s : State) : (receiveError s).frameCount = s.frameCount := by
  unfold receiveError; split <;> rfl
@[simp] theorem receiveError_retryCount (s : State) : (receiveError s).retryCount = s.retryCount := by
  unfold receiveError; split <;> rfl
@[simp] theorem receiveError_eventCount (s : State) : (receiveError s).eventCount = s.eventCount := by
  unfold receiveError; split <;> rfl
@[simp] theorem receiveError_reqSrc (s : State) : (receiveError s).reqSrc = s.reqSrc := by
  unfold receiveError; split <;> rfl
@[simp] theorem receiveError_reqType (s : State) : (receiveError s).reqType = s.reqType := by
  unfold receiveError; split <;> rfl
@[simp] theorem receiveError_waitType (s : State) : (receiveError s).waitType = s.waitType := by
  unfold receiveError; split <;> rfl
@[simp] theorem receiveError_silence (s : State) : (receiveError s).silence = s.silence := by
  unfold receiveError; split <;> rfl
@[simp] theorem receiveError_replyTimer (s : State) : (receiveError s).replyTimer = s.replyTimer := by
  unfold receiveError; split <;> rfl
@[simp] theorem receiveError_txqValid (s : State) : (receiveError s).txqValid = s.txqValid := by
  unfold receiveError; split <;> rfl
@[simp] theorem receiveError_txqType (s : State) : (receiveError s).txqType = s.txqType := by
  unfold receiveError; split <;> rfl
@[simp] theorem receiveError_txqDest (s : State) : (receiveError s).txqDest = s.txqDest := by
  unfold receiveError; split <;> rfl
@[simp] theorem receiveError_txqLen (s : State) : (receiveError s).txqLen = s.txqLen := by
  unfold receiveError; split <;> rfl
@[simp] theorem receiveError_txqData (s : State) : (receiveError s).txqData = s.txqData := by
  unfold receiveError; split <;> rfl
@[simp] theorem receiveError_rplValid (s : State) : (receiveError s).rplValid = s.rplValid := by
  unfold receiveError; split <;> rfl
@[simp] theorem receiveError_rplType (s : State) : (receiveError s).rplType = s.rplType := by
  unfold receiveError; split <;> rfl
@[simp] theorem receiveError_rplLen (s : State) : (receiveError s).rplLen = s.rplLen := by
  unfold receiveError; split <;> rfl
@[simp] theorem receiveError_rplData (s : State) : (receiveError s).rplData = s.rplData := by
  unfold receiveError; split <;> rfl
@[simp] theorem receiveError_inputs (s : State) : (receiveError s).inputs = s.inputs := by
  unfold receiveError; split <;> rfl
@[simp] theorem receiveError_events (s : State) : (receiveError s).events = s.events := by
  unfold receiveError; split <;> rfl

end Sys2Proof.Machine
end

