-- ==== Sys2Proof/Laws/Token.lean ====
section
/-! SUPPORT. Which fields each branch of the token machine never writes, one lemma per field (10_state.md R35), so that no later
proof unfolds a branch to learn that it leaves a field alone. -/

namespace Sys2Proof.Machine

/-! Initialize (42_token_fsm.md R131). -/

@[simp] theorem initializeStep_cfg (s : State) : (initializeStep s).cfg = s.cfg := rfl
@[simp] theorem initializeStep_rxState (s : State) : (initializeStep s).rxState = s.rxState := rfl
@[simp] theorem initializeStep_rxIndex (s : State) : (initializeStep s).rxIndex = s.rxIndex := rfl
@[simp] theorem initializeStep_rxHcrc (s : State) : (initializeStep s).rxHcrc = s.rxHcrc := rfl
@[simp] theorem initializeStep_rxDcrc (s : State) : (initializeStep s).rxDcrc = s.rxDcrc := rfl
@[simp] theorem initializeStep_rxType (s : State) : (initializeStep s).rxType = s.rxType := rfl
@[simp] theorem initializeStep_rxDest (s : State) : (initializeStep s).rxDest = s.rxDest := rfl
@[simp] theorem initializeStep_rxSrc (s : State) : (initializeStep s).rxSrc = s.rxSrc := rfl
@[simp] theorem initializeStep_rxLen (s : State) : (initializeStep s).rxLen = s.rxLen := rfl
@[simp] theorem initializeStep_rxBuf (s : State) : (initializeStep s).rxBuf = s.rxBuf := rfl
@[simp] theorem initializeStep_frType (s : State) : (initializeStep s).frType = s.frType := rfl
@[simp] theorem initializeStep_frDest (s : State) : (initializeStep s).frDest = s.frDest := rfl
@[simp] theorem initializeStep_frSrc (s : State) : (initializeStep s).frSrc = s.frSrc := rfl
@[simp] theorem initializeStep_frLen (s : State) : (initializeStep s).frLen = s.frLen := rfl
@[simp] theorem initializeStep_frameCount (s : State) : (initializeStep s).frameCount = s.frameCount := rfl
@[simp] theorem initializeStep_retryCount (s : State) : (initializeStep s).retryCount = s.retryCount := rfl
@[simp] theorem initializeStep_eventCount (s : State) : (initializeStep s).eventCount = s.eventCount := rfl
@[simp] theorem initializeStep_reqSrc (s : State) : (initializeStep s).reqSrc = s.reqSrc := rfl
@[simp] theorem initializeStep_reqType (s : State) : (initializeStep s).reqType = s.reqType := rfl
@[simp] theorem initializeStep_waitType (s : State) : (initializeStep s).waitType = s.waitType := rfl
@[simp] theorem initializeStep_silence (s : State) : (initializeStep s).silence = s.silence := rfl
@[simp] theorem initializeStep_replyTimer (s : State) : (initializeStep s).replyTimer = s.replyTimer := rfl
@[simp] theorem initializeStep_txqValid (s : State) : (initializeStep s).txqValid = s.txqValid := rfl
@[simp] theorem initializeStep_txqType (s : State) : (initializeStep s).txqType = s.txqType := rfl
@[simp] theorem initializeStep_txqDest (s : State) : (initializeStep s).txqDest = s.txqDest := rfl
@[simp] theorem initializeStep_txqLen (s : State) : (initializeStep s).txqLen = s.txqLen := rfl
@[simp] theorem initializeStep_txqData (s : State) : (initializeStep s).txqData = s.txqData := rfl
@[simp] theorem initializeStep_rplValid (s : State) : (initializeStep s).rplValid = s.rplValid := rfl
@[simp] theorem initializeStep_rplType (s : State) : (initializeStep s).rplType = s.rplType := rfl
@[simp] theorem initializeStep_rplLen (s : State) : (initializeStep s).rplLen = s.rplLen := rfl
@[simp] theorem initializeStep_rplData (s : State) : (initializeStep s).rplData = s.rplData := rfl
@[simp] theorem initializeStep_status (s : State) : (initializeStep s).status = s.status := rfl
@[simp] theorem initializeStep_inputs (s : State) : (initializeStep s).inputs = s.inputs := rfl
@[simp] theorem initializeStep_events (s : State) : (initializeStep s).events = s.events := rfl

/-! DoneWithToken (42_token_fsm.md R151 to R157). -/

@[simp] theorem doneStep_cfg (s : State) : (doneStep s).cfg = s.cfg := by
  unfold doneStep; (repeat' split) <;> rfl
@[simp] theorem doneStep_rxState (s : State) : (doneStep s).rxState = s.rxState := by
  unfold doneStep; (repeat' split) <;> rfl
@[simp] theorem doneStep_rxIndex (s : State) : (doneStep s).rxIndex = s.rxIndex := by
  unfold doneStep; (repeat' split) <;> rfl
@[simp] theorem doneStep_rxHcrc (s : State) : (doneStep s).rxHcrc = s.rxHcrc := by
  unfold doneStep; (repeat' split) <;> rfl
@[simp] theorem doneStep_rxDcrc (s : State) : (doneStep s).rxDcrc = s.rxDcrc := by
  unfold doneStep; (repeat' split) <;> rfl
@[simp] theorem doneStep_rxType (s : State) : (doneStep s).rxType = s.rxType := by
  unfold doneStep; (repeat' split) <;> rfl
@[simp] theorem doneStep_rxDest (s : State) : (doneStep s).rxDest = s.rxDest := by
  unfold doneStep; (repeat' split) <;> rfl
@[simp] theorem doneStep_rxSrc (s : State) : (doneStep s).rxSrc = s.rxSrc := by
  unfold doneStep; (repeat' split) <;> rfl
@[simp] theorem doneStep_rxLen (s : State) : (doneStep s).rxLen = s.rxLen := by
  unfold doneStep; (repeat' split) <;> rfl
@[simp] theorem doneStep_rxBuf (s : State) : (doneStep s).rxBuf = s.rxBuf := by
  unfold doneStep; (repeat' split) <;> rfl
@[simp] theorem doneStep_frType (s : State) : (doneStep s).frType = s.frType := by
  unfold doneStep; (repeat' split) <;> rfl
@[simp] theorem doneStep_frDest (s : State) : (doneStep s).frDest = s.frDest := by
  unfold doneStep; (repeat' split) <;> rfl
@[simp] theorem doneStep_frSrc (s : State) : (doneStep s).frSrc = s.frSrc := by
  unfold doneStep; (repeat' split) <;> rfl
@[simp] theorem doneStep_frLen (s : State) : (doneStep s).frLen = s.frLen := by
  unfold doneStep; (repeat' split) <;> rfl
@[simp] theorem doneStep_rvf (s : State) : (doneStep s).rvf = s.rvf := by
  unfold doneStep; (repeat' split) <;> rfl
@[simp] theorem doneStep_rif (s : State) : (doneStep s).rif = s.rif := by
  unfold doneStep; (repeat' split) <;> rfl
@[simp] theorem doneStep_soleMaster (s : State) : (doneStep s).soleMaster = s.soleMaster := by
  unfold doneStep; (repeat' split) <;> rfl
@[simp] theorem doneStep_reqSrc (s : State) : (doneStep s).reqSrc = s.reqSrc := by
  unfold doneStep; (repeat' split) <;> rfl
@[simp] theorem doneStep_reqType (s : State) : (doneStep s).reqType = s.reqType := by
  unfold doneStep; (repeat' split) <;> rfl
@[simp] theorem doneStep_waitType (s : State) : (doneStep s).waitType = s.waitType := by
  unfold doneStep; (repeat' split) <;> rfl
@[simp] theorem doneStep_replyTimer (s : State) : (doneStep s).replyTimer = s.replyTimer := by
  unfold doneStep; (repeat' split) <;> rfl
@[simp] theorem doneStep_txqValid (s : State) : (doneStep s).txqValid = s.txqValid := by
  unfold doneStep; (repeat' split) <;> rfl
@[simp] theorem doneStep_txqType (s : State) : (doneStep s).txqType = s.txqType := by
  unfold doneStep; (repeat' split) <;> rfl
@[simp] theorem doneStep_txqDest (s : State) : (doneStep s).txqDest = s.txqDest := by
  unfold doneStep; (repeat' split) <;> rfl
@[simp] theorem doneStep_txqLen (s : State) : (doneStep s).txqLen = s.txqLen := by
  unfold doneStep; (repeat' split) <;> rfl
@[simp] theorem doneStep_txqData (s : State) : (doneStep s).txqData = s.txqData := by
  unfold doneStep; (repeat' split) <;> rfl
@[simp] theorem doneStep_rplValid (s : State) : (doneStep s).rplValid = s.rplValid := by
  unfold doneStep; (repeat' split) <;> rfl
@[simp] theorem doneStep_rplType (s : State) : (doneStep s).rplType = s.rplType := by
  unfold doneStep; (repeat' split) <;> rfl
@[simp] theorem doneStep_rplLen (s : State) : (doneStep s).rplLen = s.rplLen := by
  unfold doneStep; (repeat' split) <;> rfl
@[simp] theorem doneStep_rplData (s : State) : (doneStep s).rplData = s.rplData := by
  unfold doneStep; (repeat' split) <;> rfl
@[simp] theorem doneStep_status (s : State) : (doneStep s).status = s.status := by
  unfold doneStep; (repeat' split) <;> rfl
@[simp] theorem doneStep_inputs (s : State) : (doneStep s).inputs = s.inputs := by
  unfold doneStep; (repeat' split) <;> rfl

/-! PassToken (42_token_fsm.md R158 to R161). -/

@[simp] theorem passStep_cfg (s : State) : (passStep s).cfg = s.cfg := by
  unfold passStep; (repeat' split) <;> rfl
@[simp] theorem passStep_rxState (s : State) : (passStep s).rxState = s.rxState := by
  unfold passStep; (repeat' split) <;> rfl
@[simp] theorem passStep_rxIndex (s : State) : (passStep s).rxIndex = s.rxIndex := by
  unfold passStep; (repeat' split) <;> rfl
@[simp] theorem passStep_rxHcrc (s : State) : (passStep s).rxHcrc = s.rxHcrc := by
  unfold passStep; (repeat' split) <;> rfl
@[simp] theorem passStep_rxDcrc (s : State) : (passStep s).rxDcrc = s.rxDcrc := by
  unfold passStep; (repeat' split) <;> rfl
@[simp] theorem passStep_rxType (s : State) : (passStep s).rxType = s.rxType := by
  unfold passStep; (repeat' split) <;> rfl
@[simp] theorem passStep_rxDest (s : State) : (passStep s).rxDest = s.rxDest := by
  unfold passStep; (repeat' split) <;> rfl
@[simp] theorem passStep_rxSrc (s : State) : (passStep s).rxSrc = s.rxSrc := by
  unfold passStep; (repeat' split) <;> rfl
@[simp] theorem passStep_rxLen (s : State) : (passStep s).rxLen = s.rxLen := by
  unfold passStep; (repeat' split) <;> rfl
@[simp] theorem passStep_rxBuf (s : State) : (passStep s).rxBuf = s.rxBuf := by
  unfold passStep; (repeat' split) <;> rfl
@[simp] theorem passStep_frType (s : State) : (passStep s).frType = s.frType := by
  unfold passStep; (repeat' split) <;> rfl
@[simp] theorem passStep_frDest (s : State) : (passStep s).frDest = s.frDest := by
  unfold passStep; (repeat' split) <;> rfl
@[simp] theorem passStep_frSrc (s : State) : (passStep s).frSrc = s.frSrc := by
  unfold passStep; (repeat' split) <;> rfl
@[simp] theorem passStep_frLen (s : State) : (passStep s).frLen = s.frLen := by
  unfold passStep; (repeat' split) <;> rfl
@[simp] theorem passStep_rvf (s : State) : (passStep s).rvf = s.rvf := by
  unfold passStep; (repeat' split) <;> rfl
@[simp] theorem passStep_rif (s : State) : (passStep s).rif = s.rif := by
  unfold passStep; (repeat' split) <;> rfl
@[simp] theorem passStep_soleMaster (s : State) : (passStep s).soleMaster = s.soleMaster := by
  unfold passStep; (repeat' split) <;> rfl
@[simp] theorem passStep_frameCount (s : State) : (passStep s).frameCount = s.frameCount := by
  unfold passStep; (repeat' split) <;> rfl
@[simp] theorem passStep_reqSrc (s : State) : (passStep s).reqSrc = s.reqSrc := by
  unfold passStep; (repeat' split) <;> rfl
@[simp] theorem passStep_reqType (s : State) : (passStep s).reqType = s.reqType := by
  unfold passStep; (repeat' split) <;> rfl
@[simp] theorem passStep_waitType (s : State) : (passStep s).waitType = s.waitType := by
  unfold passStep; (repeat' split) <;> rfl
@[simp] theorem passStep_replyTimer (s : State) : (passStep s).replyTimer = s.replyTimer := by
  unfold passStep; (repeat' split) <;> rfl
@[simp] theorem passStep_txqValid (s : State) : (passStep s).txqValid = s.txqValid := by
  unfold passStep; (repeat' split) <;> rfl
@[simp] theorem passStep_txqType (s : State) : (passStep s).txqType = s.txqType := by
  unfold passStep; (repeat' split) <;> rfl
@[simp] theorem passStep_txqDest (s : State) : (passStep s).txqDest = s.txqDest := by
  unfold passStep; (repeat' split) <;> rfl
@[simp] theorem passStep_txqLen (s : State) : (passStep s).txqLen = s.txqLen := by
  unfold passStep; (repeat' split) <;> rfl
@[simp] theorem passStep_txqData (s : State) : (passStep s).txqData = s.txqData := by
  unfold passStep; (repeat' split) <;> rfl
@[simp] theorem passStep_rplValid (s : State) : (passStep s).rplValid = s.rplValid := by
  unfold passStep; (repeat' split) <;> rfl
@[simp] theorem passStep_rplType (s : State) : (passStep s).rplType = s.rplType := by
  unfold passStep; (repeat' split) <;> rfl
@[simp] theorem passStep_rplLen (s : State) : (passStep s).rplLen = s.rplLen := by
  unfold passStep; (repeat' split) <;> rfl
@[simp] theorem passStep_rplData (s : State) : (passStep s).rplData = s.rplData := by
  unfold passStep; (repeat' split) <;> rfl
@[simp] theorem passStep_status (s : State) : (passStep s).status = s.status := by
  unfold passStep; (repeat' split) <;> rfl
@[simp] theorem passStep_inputs (s : State) : (passStep s).inputs = s.inputs := by
  unfold passStep; (repeat' split) <;> rfl

/-! NoToken (42_token_fsm.md R162 to R164). -/

@[simp] theorem noTokenStep_cfg (s : State) : (noTokenStep s).cfg = s.cfg := by
  unfold noTokenStep; (repeat' split) <;> rfl
@[simp] theorem noTokenStep_rxState (s : State) : (noTokenStep s).rxState = s.rxState := by
  unfold noTokenStep; (repeat' split) <;> rfl
@[simp] theorem noTokenStep_rxIndex (s : State) : (noTokenStep s).rxIndex = s.rxIndex := by
  unfold noTokenStep; (repeat' split) <;> rfl
@[simp] theorem noTokenStep_rxHcrc (s : State) : (noTokenStep s).rxHcrc = s.rxHcrc := by
  unfold noTokenStep; (repeat' split) <;> rfl
@[simp] theorem noTokenStep_rxDcrc (s : State) : (noTokenStep s).rxDcrc = s.rxDcrc := by
  unfold noTokenStep; (repeat' split) <;> rfl
@[simp] theorem noTokenStep_rxType (s : State) : (noTokenStep s).rxType = s.rxType := by
  unfold noTokenStep; (repeat' split) <;> rfl
@[simp] theorem noTokenStep_rxDest (s : State) : (noTokenStep s).rxDest = s.rxDest := by
  unfold noTokenStep; (repeat' split) <;> rfl
@[simp] theorem noTokenStep_rxSrc (s : State) : (noTokenStep s).rxSrc = s.rxSrc := by
  unfold noTokenStep; (repeat' split) <;> rfl
@[simp] theorem noTokenStep_rxLen (s : State) : (noTokenStep s).rxLen = s.rxLen := by
  unfold noTokenStep; (repeat' split) <;> rfl
@[simp] theorem noTokenStep_rxBuf (s : State) : (noTokenStep s).rxBuf = s.rxBuf := by
  unfold noTokenStep; (repeat' split) <;> rfl
@[simp] theorem noTokenStep_frType (s : State) : (noTokenStep s).frType = s.frType := by
  unfold noTokenStep; (repeat' split) <;> rfl
@[simp] theorem noTokenStep_frDest (s : State) : (noTokenStep s).frDest = s.frDest := by
  unfold noTokenStep; (repeat' split) <;> rfl
@[simp] theorem noTokenStep_frSrc (s : State) : (noTokenStep s).frSrc = s.frSrc := by
  unfold noTokenStep; (repeat' split) <;> rfl
@[simp] theorem noTokenStep_frLen (s : State) : (noTokenStep s).frLen = s.frLen := by
  unfold noTokenStep; (repeat' split) <;> rfl
@[simp] theorem noTokenStep_rvf (s : State) : (noTokenStep s).rvf = s.rvf := by
  unfold noTokenStep; (repeat' split) <;> rfl
@[simp] theorem noTokenStep_rif (s : State) : (noTokenStep s).rif = s.rif := by
  unfold noTokenStep; (repeat' split) <;> rfl
@[simp] theorem noTokenStep_soleMaster (s : State) : (noTokenStep s).soleMaster = s.soleMaster := by
  unfold noTokenStep; (repeat' split) <;> rfl
@[simp] theorem noTokenStep_frameCount (s : State) : (noTokenStep s).frameCount = s.frameCount := by
  unfold noTokenStep; (repeat' split) <;> rfl
@[simp] theorem noTokenStep_reqSrc (s : State) : (noTokenStep s).reqSrc = s.reqSrc := by
  unfold noTokenStep; (repeat' split) <;> rfl
@[simp] theorem noTokenStep_reqType (s : State) : (noTokenStep s).reqType = s.reqType := by
  unfold noTokenStep; (repeat' split) <;> rfl
@[simp] theorem noTokenStep_waitType (s : State) : (noTokenStep s).waitType = s.waitType := by
  unfold noTokenStep; (repeat' split) <;> rfl
@[simp] theorem noTokenStep_replyTimer (s : State) : (noTokenStep s).replyTimer = s.replyTimer := by
  unfold noTokenStep; (repeat' split) <;> rfl
@[simp] theorem noTokenStep_txqValid (s : State) : (noTokenStep s).txqValid = s.txqValid := by
  unfold noTokenStep; (repeat' split) <;> rfl
@[simp] theorem noTokenStep_txqType (s : State) : (noTokenStep s).txqType = s.txqType := by
  unfold noTokenStep; (repeat' split) <;> rfl
@[simp] theorem noTokenStep_txqDest (s : State) : (noTokenStep s).txqDest = s.txqDest := by
  unfold noTokenStep; (repeat' split) <;> rfl
@[simp] theorem noTokenStep_txqLen (s : State) : (noTokenStep s).txqLen = s.txqLen := by
  unfold noTokenStep; (repeat' split) <;> rfl
@[simp] theorem noTokenStep_txqData (s : State) : (noTokenStep s).txqData = s.txqData := by
  unfold noTokenStep; (repeat' split) <;> rfl
@[simp] theorem noTokenStep_rplValid (s : State) : (noTokenStep s).rplValid = s.rplValid := by
  unfold noTokenStep; (repeat' split) <;> rfl
@[simp] theorem noTokenStep_rplType (s : State) : (noTokenStep s).rplType = s.rplType := by
  unfold noTokenStep; (repeat' split) <;> rfl
@[simp] theorem noTokenStep_rplLen (s : State) : (noTokenStep s).rplLen = s.rplLen := by
  unfold noTokenStep; (repeat' split) <;> rfl
@[simp] theorem noTokenStep_rplData (s : State) : (noTokenStep s).rplData = s.rplData := by
  unfold noTokenStep; (repeat' split) <;> rfl
@[simp] theorem noTokenStep_status (s : State) : (noTokenStep s).status = s.status := by
  unfold noTokenStep; (repeat' split) <;> rfl
@[simp] theorem noTokenStep_inputs (s : State) : (noTokenStep s).inputs = s.inputs := by
  unfold noTokenStep; (repeat' split) <;> rfl

/-! PollForMaster where no valid frame is posted (42_token_fsm.md R167 to R171). -/

@[simp] theorem pollUnanswered_cfg (s : State) : (pollUnanswered s).cfg = s.cfg := by
  unfold pollUnanswered; (repeat' split) <;> rfl
@[simp] theorem pollUnanswered_rxState (s : State) : (pollUnanswered s).rxState = s.rxState := by
  unfold pollUnanswered; (repeat' split) <;> rfl
@[simp] theorem pollUnanswered_rxIndex (s : State) : (pollUnanswered s).rxIndex = s.rxIndex := by
  unfold pollUnanswered; (repeat' split) <;> rfl
@[simp] theorem pollUnanswered_rxHcrc (s : State) : (pollUnanswered s).rxHcrc = s.rxHcrc := by
  unfold pollUnanswered; (repeat' split) <;> rfl
@[simp] theorem pollUnanswered_rxDcrc (s : State) : (pollUnanswered s).rxDcrc = s.rxDcrc := by
  unfold pollUnanswered; (repeat' split) <;> rfl
@[simp] theorem pollUnanswered_rxType (s : State) : (pollUnanswered s).rxType = s.rxType := by
  unfold pollUnanswered; (repeat' split) <;> rfl
@[simp] theorem pollUnanswered_rxDest (s : State) : (pollUnanswered s).rxDest = s.rxDest := by
  unfold pollUnanswered; (repeat' split) <;> rfl
@[simp] theorem pollUnanswered_rxSrc (s : State) : (pollUnanswered s).rxSrc = s.rxSrc := by
  unfold pollUnanswered; (repeat' split) <;> rfl
@[simp] theorem pollUnanswered_rxLen (s : State) : (pollUnanswered s).rxLen = s.rxLen := by
  unfold pollUnanswered; (repeat' split) <;> rfl
@[simp] theorem pollUnanswered_rxBuf (s : State) : (pollUnanswered s).rxBuf = s.rxBuf := by
  unfold pollUnanswered; (repeat' split) <;> rfl
@[simp] theorem pollUnanswered_frType (s : State) : (pollUnanswered s).frType = s.frType := by
  unfold pollUnanswered; (repeat' split) <;> rfl
@[simp] theorem pollUnanswered_frDest (s : State) : (pollUnanswered s).frDest = s.frDest := by
  unfold pollUnanswered; (repeat' split) <;> rfl
@[simp] theorem pollUnanswered_frSrc (s : State) : (pollUnanswered s).frSrc = s.frSrc := by
  unfold pollUnanswered; (repeat' split) <;> rfl
@[simp] theorem pollUnanswered_frLen (s : State) : (pollUnanswered s).frLen = s.frLen := by
  unfold pollUnanswered; (repeat' split) <;> rfl
@[simp] theorem pollUnanswered_rvf (s : State) : (pollUnanswered s).rvf = s.rvf := by
  unfold pollUnanswered; (repeat' split) <;> rfl
@[simp] theorem pollUnanswered_ns (s : State) : (pollUnanswered s).ns = s.ns := by
  unfold pollUnanswered; (repeat' split) <;> rfl
@[simp] theorem pollUnanswered_tokenCount (s : State) : (pollUnanswered s).tokenCount = s.tokenCount := by
  unfold pollUnanswered; (repeat' split) <;> rfl
@[simp] theorem pollUnanswered_reqSrc (s : State) : (pollUnanswered s).reqSrc = s.reqSrc := by
  unfold pollUnanswered; (repeat' split) <;> rfl
@[simp] theorem pollUnanswered_reqType (s : State) : (pollUnanswered s).reqType = s.reqType := by
  unfold pollUnanswered; (repeat' split) <;> rfl
@[simp] theorem pollUnanswered_waitType (s : State) : (pollUnanswered s).waitType = s.waitType := by
  unfold pollUnanswered; (repeat' split) <;> rfl
@[simp] theorem pollUnanswered_replyTimer (s : State) : (pollUnanswered s).replyTimer = s.replyTimer := by
  unfold pollUnanswered; (repeat' split) <;> rfl
@[simp] theorem pollUnanswered_txqValid (s : State) : (pollUnanswered s).txqValid = s.txqValid := by
  unfold pollUnanswered; (repeat' split) <;> rfl
@[simp] theorem pollUnanswered_txqType (s : State) : (pollUnanswered s).txqType = s.txqType := by
  unfold pollUnanswered; (repeat' split) <;> rfl
@[simp] theorem pollUnanswered_txqDest (s : State) : (pollUnanswered s).txqDest = s.txqDest := by
  unfold pollUnanswered; (repeat' split) <;> rfl
@[simp] theorem pollUnanswered_txqLen (s : State) : (pollUnanswered s).txqLen = s.txqLen := by
  unfold pollUnanswered; (repeat' split) <;> rfl
@[simp] theorem pollUnanswered_txqData (s : State) : (pollUnanswered s).txqData = s.txqData := by
  unfold pollUnanswered; (repeat' split) <;> rfl
@[simp] theorem pollUnanswered_rplValid (s : State) : (pollUnanswered s).rplValid = s.rplValid := by
  unfold pollUnanswered; (repeat' split) <;> rfl
@[simp] theorem pollUnanswered_rplType (s : State) : (pollUnanswered s).rplType = s.rplType := by
  unfold pollUnanswered; (repeat' split) <;> rfl
@[simp] theorem pollUnanswered_rplLen (s : State) : (pollUnanswered s).rplLen = s.rplLen := by
  unfold pollUnanswered; (repeat' split) <;> rfl
@[simp] theorem pollUnanswered_rplData (s : State) : (pollUnanswered s).rplData = s.rplData := by
  unfold pollUnanswered; (repeat' split) <;> rfl
@[simp] theorem pollUnanswered_status (s : State) : (pollUnanswered s).status = s.status := by
  unfold pollUnanswered; (repeat' split) <;> rfl
@[simp] theorem pollUnanswered_inputs (s : State) : (pollUnanswered s).inputs = s.inputs := by
  unfold pollUnanswered; (repeat' split) <;> rfl

end Sys2Proof.Machine
end

