-- ==== Sys2Proof/Tests/Slice0.lean ====
section
/-! SUPPORT. Tests with values from spec/95_test_vectors.md and 30_encoding.md, and a witness for the hypotheses of each
statement. -/

namespace Sys2Proof.Tests

open Sys2Proof Sys2Proof.Machine Sys2Proof.Statements

/-! ## Small states -/

/-- The next state of an outcome, if it is one. -/
def nextOf? (o : Host.Outcome State Fault Refusal) : Option State :=
  match o with
  | .next s => some s
  | .fault _ => none
  | .refused _ => none

/-- The refusal of an outcome, if it is one. -/
def refusalOf? (o : Host.Outcome State Fault Refusal) : Option Refusal :=
  match o with
  | .next _ => none
  | .fault _ => none
  | .refused r => some r

/-- "Fresh" (95_test_vectors.md): reset followed by one MASTER_STEP. -/
def fresh : State := { State.reset with tkState := .idle, ns := 5, ps := 5, tokenCount := 50 }

/-- A fresh node with a valid frame posted. -/
def posted (t d src : Octet) (len : Word16) : State :=
  { fresh with rvf := true, frType := t, frDest := d, frSrc := src, frLen := len }

/-- "Holder" (95_test_vectors.md section 6). -/
def holder : State := { fresh with tkState := .useToken, eventCount := 8, frDest := 5, frSrc := 4 }

/-- A node with its receiver in a given state. -/
def receiving (x : RxState) (index : BitVec 10) : State := { fresh with rxState := x, rxIndex := index }

/-- The fifth header octet of `00 05 04 00 00` consumed: the accumulator is the complement of the CRC octet 0x37. -/
def headerBegun : State := { receiving .header 5 with rxHcrc := 0xC8, rxDest := 5, rxSrc := 4 }

/-- The host's words. -/
def testDesc (t d : Octet) (data : List Octet) : Descriptor :=
  { dType := t, dDest := d, dLen := BitVec.ofNat 16 data.length, dData := data }

/-! ## Well-formedness: an ill-formed term for each check (30_encoding.md R74, R75) -/

theorem test_wf_refuses_txQueue_length : (Instr.txQueue ⟨6, 4, 2, [0x01]⟩).problem = some .descriptorLength := by decide

theorem test_wf_refuses_reply_length : (Instr.reply ⟨6, 0, 0, [0x01]⟩).problem = some .descriptorLength := by decide

theorem test_wf_refuses_reserved_as_malformed : (Instr.malformed 0x7100).problem = some .malformedOpReserved := by decide

theorem test_wf_refuses_command_as_malformed :
    (Instr.malformed 0x3000).problem = some .malformedIsCommand ∧
      (Instr.malformed 0x10AB).problem = some .malformedIsCommand := by decide

theorem test_wf_accepts :
    (Instr.txQueue ⟨6, 4, 1, [0x01]⟩).wf = true ∧ (Instr.malformed 0x0100).wf = true ∧
      (Instr.malformed 0x1100).wf = true ∧ Instr.tick.wf = true := by decide

/-! ## Decoding words written out bit by bit from 30_encoding.md R72, R73, R75 -/

/-- op 0001, rsv 0000, imm8 10101011. -/
theorem test_decode_rxByte : decode (.command (.plain 0b0001_0000_1010_1011)) = .ok (.rxByte 0xAB) := by decide

theorem test_decode_plain_commands :
    decode (.command (.plain 0b0000_0000_0000_0000)) = .ok .rxNone ∧
    decode (.command (.plain 0b0010_0000_0000_0000)) = .ok .rxError ∧
    decode (.command (.plain 0b0011_0000_0000_0000)) = .ok .tick ∧
    decode (.command (.plain 0b0100_0000_0000_0000)) = .ok .masterStep := by decide

theorem test_decode_described_commands :
    decode (.command ⟨0b0101_0000_0000_0000, testDesc 6 4 [0x01]⟩) = .ok (.txQueue (testDesc 6 4 [0x01])) ∧
    decode (.command ⟨0b0110_0000_0000_0000, testDesc 6 0 [0xAA]⟩) = .ok (.reply (testDesc 6 0 [0xAA])) := by decide

/-- 95_test_vectors.md H2 to H5, and rsv beside RX_BYTE. -/
theorem test_decode_ignored_words :
    decode (.command (.plain 0b0111_0000_0000_0000)) = .ok (.reservedOp7 0) ∧
    decode (.command (.plain 0b1111_0001_0010_0011)) = .ok (.reservedOp8F 0x7123) ∧
    decode (.command (.plain 0b0000_0001_0000_0000)) = .ok (.malformed 0x0100) ∧
    decode (.command (.plain 0b0011_0000_0000_0001)) = .ok (.malformed 0x3001) ∧
    decode (.command (.plain 0b0001_1000_0000_0000)) = .ok (.malformed 0x1800) := by decide

/-- 95_test_vectors.md H6: a descriptor beside MASTER_STEP is not read, even one that is none. -/
theorem test_decode_descriptor_not_read :
    decode (.command ⟨0x4000, ⟨6, 4, 9, []⟩⟩) = .ok .masterStep ∧
    decode (.command ⟨0x5000, ⟨6, 4, 9, []⟩⟩) = .error .descriptorLength := by decide

/-- 30_encoding.md R66: the eight defined frame types. -/
theorem test_decode_frame_types :
    decode (.frameType 0b0000_0000) = .ok .ftToken ∧ decode (.frameType 0b0000_0001) = .ok .ftPfm ∧
    decode (.frameType 0b0000_0010) = .ok .ftRpfm ∧ decode (.frameType 0b0000_0011) = .ok .ftTreq ∧
    decode (.frameType 0b0000_0100) = .ok .ftTrsp ∧ decode (.frameType 0b0000_0101) = .ok .ftDer ∧
    decode (.frameType 0b0000_0110) = .ok .ftDner ∧ decode (.frameType 0b0000_0111) = .ok .ftRp := by decide

/-- 30_encoding.md R67, R68: the ends of the reserved and the proprietary ranges. -/
theorem test_decode_frame_ranges :
    decode (.frameType 0b0000_1000) = .ok (.ftReserved08 0) ∧ decode (.frameType 0b0000_1111) = .ok (.ftReserved08 7) ∧
    decode (.frameType 0b0001_0000) = .ok (.ftReserved10 0) ∧ decode (.frameType 0b0001_1111) = .ok (.ftReserved10 15) ∧
    decode (.frameType 0b0010_0000) = .ok (.ftReserved20 0) ∧ decode (.frameType 0b0011_1111) = .ok (.ftReserved20 31) ∧
    decode (.frameType 0b0100_0000) = .ok (.ftReserved40 0) ∧ decode (.frameType 0b0111_1111) = .ok (.ftReserved40 63) ∧
    decode (.frameType 0b1000_0000) = .ok (.ftProprietary 0) ∧
    decode (.frameType 0b1111_1111) = .ok (.ftProprietary 127) := by decide

/-- The host's numbering of one octet and of one word. -/
theorem test_decodeTableWord :
    decodeTableWord 16 0x10AB = some (.rxByte 0xAB) ∧ decodeTableWord 8 0x85 = some (.ftProprietary 5) ∧
    decodeTableWord 16 0x5000 = some (.txQueue .absent) := by decide

/-- The word laid is the one the very next step runs (RX_BYTE from reset, and a Test-Request's type octet). -/
theorem test_withFetchWord :
    (nextOf? (step (State.reset.withFetchWord 16 0x1055))).map State.rxState = some .preamble ∧
    (nextOf? (step (State.reset.withFetchWord 8 0x03))).map (fun s => (s.tkState, s.reqType)) =
      some (.answerDataRequest, 3) := by decide

/-! ## The codec (95_test_vectors.md sections 1 to 4) -/

/-- S1: the header `00 02 01 00 00`. -/
theorem test_header_crc :
    hFold 0xFF [0x00, 0x02, 0x01, 0x00, 0x00] = 0x8C ∧ headerCrcOctet 0x00 0x02 0x01 0x00 0x00 = 0x73 := by decide

/-- S2: the payload `01 02 03`. -/
theorem test_data_crc : dFold 0xFFFF [0x01, 0x02, 0x03] = 0x62C4 ∧ dataCrc [0x01, 0x02, 0x03] = 0x9D3B := by decide

/-- P1 cmd 12. -/
theorem test_encode_frame :
    encodeFrame 6 4 5 [0x01, 0x02] = [0x55, 0xFF, 0x06, 0x04, 0x05, 0x00, 0x02, 0xC8, 0x01, 0x02, 0x8D, 0x35] := by
  decide

/-! ## The receiver (95_test_vectors.md section 5) -/

/-- RX17: a silence of 6 is not above T_FRAME_ABORT. -/
theorem test_rxNone_in_time :
    (nextOf? (exec .rxNone { receiving .preamble 0 with silence := 6 })).map State.rxState = some .preamble := by decide

/-- RX19: a silence of 7 in Header posts an invalid frame. -/
theorem test_rxNone_timeout :
    (nextOf? (exec .rxNone { receiving .header 1 with silence := 7 })).map (fun s => (s.rxState, s.rif, s.silence)) =
      some (.idle, true, 7) := by decide

/-- RX1, the last octet: the Token is posted. -/
theorem test_rxByte_ends_header :
    (nextOf? (exec (.rxByte 0x37) headerBegun)).map (fun s => (s.rvf, s.rif, s.frDest, s.frSrc, s.frLen)) =
      some (true, false, 5, 4, 0) := by decide

/-- RX20, the last octet: the timeout posts Invalid and the same octet starts a preamble. -/
theorem test_rxByte_after_timeout :
    (nextOf? (exec (.rxByte 0x55) { receiving .header 2 with silence := 7 })).map (fun s => (s.rxState, s.rif)) =
      some (.preamble, true) := by decide

/-- RX14: an error in Header. -/
theorem test_rxError_header :
    (nextOf? (exec .rxError (receiving .header 2))).map (fun s => (s.rxState, s.rif)) = some (.idle, true) := by decide

/-- RX13: an error in Preamble posts nothing. -/
theorem test_rxError_preamble :
    (nextOf? (exec .rxError (receiving .preamble 0))).map (fun s => (s.rxState, s.rif)) = some (.idle, false) := by
  decide

/-! ## Timers and host commands (95_test_vectors.md sections 7, 8) -/

/-- TM2: the timers saturate. -/
theorem test_tick_saturates :
    (nextOf? (exec .tick { State.reset with silence := 0xFFFE, replyTimer := 0xFFFF })).map
      (fun s => (s.silence, s.replyTimer)) = some (0xFFFF, 0xFFFF) := by decide

/-- H7. -/
theorem test_txQueue_accepted :
    (nextOf? (exec (.txQueue (testDesc 3 4 [0x41])) fresh)).map
      (fun s => (s.txqValid, s.txqType, s.txqData, s.status)) = some (true, 3, [(0, 0x41)], 0) := by decide

/-- H13: a broadcast that expects a reply is ignored. -/
theorem test_txQueue_ignored :
    (nextOf? (exec (.txQueue (testDesc 5 255 [0x01])) fresh)).map (fun s => (s.txqValid, s.status)) =
      some (false, 2) := by decide

/-- H18. -/
theorem test_reply_accepted :
    (nextOf? (exec (.reply (testDesc 6 0 [0xAA])) { fresh with tkState := .answerDataRequest, reqType := 5 })).map
      (fun s => (s.rplValid, s.rplType, s.rplData)) = some (true, 6, [(0, 0xAA)]) := by decide

/-- H17: a Test-Request takes no reply. -/
theorem test_reply_ignored :
    (nextOf? (exec (.reply (testDesc 6 0 [0xAA])) { fresh with tkState := .answerDataRequest, reqType := 3 })).map
      (fun s => (s.rplValid, s.status)) = some (false, 2) := by decide

/-- H2. -/
theorem test_reservedOp7_ignored : (nextOf? (exec (.reservedOp7 0) fresh)).map State.status = some 2 := by decide

/-- H3. -/
theorem test_reservedOp8F_ignored : (nextOf? (exec (.reservedOp8F 0x7123) fresh)).map State.status = some 2 := by decide

/-- H5. -/
theorem test_malformed_ignored : (nextOf? (exec (.malformed 0x3001) fresh)).map State.status = some 2 := by decide

/-! ## The token machine and the frame types (95_test_vectors.md section 6) -/

/-- TK1. -/
theorem test_masterStep_initialize :
    (nextOf? (exec .masterStep State.reset)).map (fun s => (s.tkState, s.ns, s.ps, s.tokenCount)) =
      some (.idle, 5, 5, 50) := by decide

/-- TK26, its second MASTER_STEP. -/
theorem test_masterStep_maintenance_poll :
    (nextOf? (exec .masterStep { holder with tkState := .doneWithToken, frameCount := 1 })).map
      (fun s => (s.tkState, s.ps, s.events)) =
      some (.pollForMaster, 6, [.send 1 6 5 [] [0x55, 0xFF, 0x01, 0x06, 0x05, 0x00, 0x00, 0xB1]]) := by decide

/-- TK5. -/
theorem test_ftToken :
    (nextOf? (exec .ftToken (posted 0 5 4 0))).map (fun s => (s.tkState, s.rvf, s.frameCount)) =
      some (.useToken, false, 0) := by decide

/-- TK6. -/
theorem test_ftPfm :
    (nextOf? (exec .ftPfm (posted 1 5 3 0))).map (fun s => (s.tkState, s.events)) =
      some (.idle, [.send 2 3 5 [] [0x55, 0xFF, 0x02, 0x03, 0x05, 0x00, 0x00, 0x93]]) := by decide

/-- TK38. -/
theorem test_ftRpfm :
    (nextOf? (exec .ftRpfm { posted 2 5 6 0 with tkState := .pollForMaster, ps := 6 })).map
      (fun s => (s.tkState, s.ns, s.ps, s.tokenCount, s.events)) =
      some (.passToken, 6, 5, 0, [.send 0 6 5 [] [0x55, 0xFF, 0x00, 0x06, 0x05, 0x00, 0x00, 0x37]]) := by decide

/-- TK7. -/
theorem test_ftTreq :
    (nextOf? (exec .ftTreq { posted 3 5 4 1 with replyTimer := 9 })).map
      (fun s => (s.tkState, s.reqSrc, s.reqType, s.replyTimer, s.events)) =
      some (.answerDataRequest, 4, 3, 0, []) := by decide

/-- TK20: the expected reply. -/
theorem test_ftTrsp :
    (nextOf? (exec .ftTrsp { posted 4 5 4 1 with tkState := .waitForReply, waitType := 3, rxBuf := [(0, 0x41)] })).map
      (fun s => (s.tkState, s.events)) = some (.doneWithToken, [.indicate 4 5 4 [0x41]]) := by decide

/-- TK8. -/
theorem test_ftDer :
    (nextOf? (exec .ftDer { posted 5 5 4 3 with rxBuf := [(0, 0x01), (1, 0x02), (2, 0x03)] })).map
      (fun s => (s.tkState, s.reqType, s.events)) =
      some (.answerDataRequest, 5, [.indicate 5 5 4 [0x01, 0x02, 0x03]]) := by decide

/-- TK12: a broadcast. -/
theorem test_ftDner :
    (nextOf? (exec .ftDner { posted 6 255 7 1 with rxBuf := [(0, 0xAA)] })).map (fun s => (s.tkState, s.events)) =
      some (.idle, [.indicate 6 255 7 [0xAA]]) := by decide

/-- TK22. -/
theorem test_ftRp :
    (nextOf? (exec .ftRp { posted 7 5 4 0 with tkState := .waitForReply, waitType := 5 })).map
      (fun s => (s.tkState, s.events)) = some (.doneWithToken, []) := by decide

/-- 30_encoding.md R67: the reserved types are discarded. -/
theorem test_ftReserved :
    (nextOf? (exec (.ftReserved08 0) (posted 8 5 4 0))).map (fun s => (s.tkState, s.rvf, s.events)) =
      some (.idle, false, []) ∧
    (nextOf? (exec (.ftReserved10 0) (posted 16 5 4 0))).map (fun s => (s.tkState, s.rvf, s.events)) =
      some (.idle, false, []) ∧
    (nextOf? (exec (.ftReserved20 0) (posted 32 5 4 0))).map (fun s => (s.tkState, s.rvf, s.events)) =
      some (.idle, false, []) ∧
    (nextOf? (exec (.ftReserved40 63) (posted 127 5 4 0))).map (fun s => (s.tkState, s.rvf, s.events)) =
      some (.idle, false, []) := by decide

/-- TK10. -/
theorem test_ftProprietary :
    (nextOf? (exec (.ftProprietary 0) { posted 128 5 4 2 with rxBuf := [(0, 0x01), (1, 0x02)] })).map State.events =
      some [.indicate 128 5 4 [0x01, 0x02]] := by decide

/-! ## The step -/

/-- 70_reset_and_hazards.md R240: an illegal configuration (`TS > N_MAX_MASTER`) is refused at reset release. -/
theorem test_step_refuses_illegal_config :
    refusalOf? (step { fresh with inputs := [.reset { defaultConfig with nMaxMaster := 4 }] }) = some .illegalConfig := by
  decide

/-- RS1: RESET from a state that is not at reset. -/
theorem test_step_reset :
    (nextOf? (step { holder with status := 3, inputs := [.reset defaultConfig] })).map
      (fun s => (s.tkState, s.status, s.ns, s.eventCount)) = some (.initial, 0, 0, 0) := by decide

/-- 00_scope.md R11: no counter of the receiver wraps, `rx_index` (10 bits) and `event_count` (8 bits) among them. -/
theorem test_receive_counters_saturate :
    ([RxState.header, RxState.data].map fun x =>
      match exec (.rxByte 0x55) { receiving x 0x3FF with eventCount := 0xFF } with
      | .next t => (t.rxState, t.rxIndex, t.eventCount)
      | .fault _ => (.idle, 0, 0)
      | .refused _ => (.idle, 0, 0)) = [(.header, 0x3FF, 0xFF), (.data, 0x3FF, 0xFF)] := by decide

/-- 30_encoding.md R77: the assembler's text. -/
theorem test_assembler_text :
    parseLine "TXQ 6, 4, [01 02] ; queue".toList = some [.txq 6 4 [0x01, 0x02]] ∧
    Line.expand (.rxs [0x55, 0xFF]) = [.plain 0x1055, .plain 0x10FF] := by decide

/-- 95_test_vectors.md S8, one link of it: a Poll-For-Master sent by node 5 is heard by node 6 and not by node 5. -/
theorem test_bus_delivers :
    (match busCommand 0 (.plain 0x4000)
        [{ holder with tkState := .doneWithToken, frameCount := 1 },
          { fresh with cfg := { defaultConfig with ts := 6 }, ns := 6, ps := 6 }] with
      | .next b => b.map fun s => (s.rvf, s.frType, s.frSrc)
      | .fault _ => []
      | .refused _ => []) = [(false, 0, 4), (true, 1, 5)] := by decide

/-- 60_exceptions.md R229, R230 (d): a node starts on its own reset while the first runs on its own stream; the first
node's second TICK waits for the new node's. -/
theorem test_bus_starts_independently :
    (match busThen (busRun [0] [{ fresh with inputs := List.replicate 2 (.command (.plain 0x3000)) }]) fun b =>
        busThen (busStart { defaultConfig with ts := 6 } [.command (.plain 0x4000), .command (.plain 0x3000)] b)
          (busRun [0, 1, 0]) with
      | .next b => b.map fun s => (s.cfg.ts, s.tkState, s.silence, s.inputs.length)
      | .fault _ => []
      | .refused _ => []) = [(5, .idle, 2, 0), (6, .idle, 1, 0)] := by decide

/-! ## Witnesses: for each statement with hypotheses, states and operands that meet them, each clause at a boundary -/

/-- A node in Header with five octets consumed, for the given destination and length; `0x37` makes the CRC good. -/
def headerFor (d : Octet) (len : Word16) : State := { headerBegun with rxDest := d, rxLen := len, silence := 6 }

/-- A node in Data, the accumulator one octet (`0x9D`) before the good residue (payload `01 02 03`). -/
def dataAt (len : Word16) (index : BitVec 10) : State :=
  { receiving .data index with rxLen := len, rxDest := 5, rxDcrc := dFold 0xFFFF [0x01, 0x02, 0x03, 0x3B], silence := 6 }

/-- A holder at the end of its token use. -/
def doneWith (fc tc ns ps : Octet) (sole : Bool) : State :=
  { holder with
    tkState := .doneWithToken, frameCount := fc, tokenCount := tc, ns := ns, ps := ps, soleMaster := sole }

/-- A node that polls. -/
def polling (ns ps : Octet) (sole : Bool) (silence : Word16) : State :=
  { fresh with tkState := .pollForMaster, ns := ns, ps := ps, soleMaster := sole, silence := silence }

/-- A node that answers a request. -/
def answering (t : Octet) (valid : Bool) (timer : Word16) : State :=
  { fresh with
    tkState := .answerDataRequest, reqType := t, reqSrc := 4, rplValid := valid, rplType := 6, replyTimer := timer }

/-- A node that waits for the answer to a request of type `w`, with a valid frame posted. -/
def waiting (w d : Octet) : State :=
  { posted 4 d 4 501 with tkState := .waitForReply, waitType := w, silence := 254 }

theorem idleTakes_posted : IdleTakes { posted 0 5 4 501 with silence := 499 } := ⟨rfl, by decide, rfl, rfl⟩

theorem waitTakes_waiting (w d : Octet) : WaitTakes (waiting w d) :=
  ⟨rfl, by show (254 : Word16) < 255; decide, rfl, rfl⟩

theorem pollTakes_polling : PollTakes { polling 5 6 false 20 with rvf := true } := ⟨rfl, rfl⟩

theorem witness_DecodeInvertsEncode :
    (Instr.txQueue (testDesc 6 4 [0x01])).wf = true ∧ (Instr.malformed 0x6F00).wf = true ∧
      (Instr.malformed 0x0001).wf = true := by decide

theorem witness_WordDecodesByItsFields :
    (testDesc 6 4 [0x01]).wf = true ∧ 6 < (0x7000#16).toNat / 4096 ∧ (0x6100#16).toNat / 256 % 16 ≠ 0 ∧
      (0x0001#16).toNat / 4096 ≠ 1 ∧ (0x0001#16).toNat % 256 ≠ 0 ∧
      ¬(6 < (0x6000#16).toNat / 4096 ∨ (0x6000#16).toNat / 256 % 16 ≠ 0 ∨
        ((0x6000#16).toNat / 4096 ≠ 1 ∧ (0x6000#16).toNat % 256 ≠ 0)) := by decide

theorem witness_FrameTypesDecode :
    8 ≤ (8#8).toNat ∧ (15#8).toNat < 16 ∧ 16 ≤ (16#8).toNat ∧ (31#8).toNat < 32 ∧ 32 ≤ (32#8).toNat ∧
      (63#8).toNat < 64 ∧ 64 ≤ (64#8).toNat ∧ (127#8).toNat < 128 ∧ 128 ≤ (128#8).toNat := by decide

theorem witness_DataCrcChecksGood : ([0x00] : List Octet) ≠ [] := by decide

theorem witness_SingleOctetChangeDetected :
    hFold 0xFF [0x00, 0x02, 0x01, 0x00, 0x00, 0x73] = 0x55 ∧ (0x72 : Octet) ≠ 0x73 ∧
      dFold 0xFFFF [0x01, 0x02, 0x03, 0x3B, 0x9D] = 0xF0B8 ∧ (0x07 : Octet) ≠ 0x02 := by decide

theorem witness_EncodedFrameShape :
    (List.replicate 501 (0xA5 : Octet)).length ≤ 501 ∧ (List.replicate 501 (0xA5 : Octet)).length = 501 ∧
      ([0xA5] : List Octet) ≠ [] := ⟨Nat.le_of_eq List.length_replicate, List.length_replicate, by decide⟩

theorem witness_IdleOctetOrError : State.reset.rxState = .idle ∧ (0x54 : Octet) ≠ 0x55 := by decide

theorem witness_PreambleOctetOrError :
    ({ receiving .preamble 0 with silence := 6 } : State).rxState = .preamble ∧
      InTime { receiving .preamble 0 with silence := 6 } ∧ (0x00 : Octet) ≠ 0x55 ∧ (0x00 : Octet) ≠ 0xFF :=
  ⟨rfl, by show (6 : Word16) ≤ 6; decide, by decide, by decide⟩

theorem witness_HeaderOctetStored :
    ({ receiving .header 4 with silence := 6 } : State).rxState = .header ∧
      InTime { receiving .header 4 with silence := 6 } ∧ (4 : BitVec 10).toNat < 5 :=
  ⟨rfl, by show (6 : Word16) ≤ 6; decide, by decide⟩

theorem witness_HeaderCrcBranches :
    (headerFor 5 0).rxState = .header ∧ InTime (headerFor 5 0) ∧ (headerFor 5 0).rxIndex = 5 ∧
      hUpdate 0x36 (headerFor 5 0).rxHcrc ≠ 0x55 ∧ hUpdate 0x37 (headerFor 5 0).rxHcrc = 0x55 ∧
      ((headerFor 9 0).rxDest ≠ (headerFor 9 0).cfg.ts ∧ (headerFor 9 0).rxDest ≠ 255) ∧
      ((headerFor 5 502).rxDest = (headerFor 5 502).cfg.ts ∧ 501 < (headerFor 5 502).rxLen.toNat) ∧
      ((headerFor 255 0).rxDest = 255 ∧ (headerFor 255 0).rxLen = 0) ∧
      ((headerFor 255 501).rxLen.toNat ≤ 501 ∧ (headerFor 255 501).rxLen ≠ 0) :=
  ⟨rfl, by show (6 : Word16) ≤ 6; decide, rfl, by decide⟩

theorem witness_ErrorAbortsFrame :
    (headerFor 5 0).rxState = .header ∧ InTime (headerFor 5 0) ∧ (dataAt 3 0).rxState = .data ∧ InTime (dataAt 3 0) :=
  ⟨rfl, by show (6 : Word16) ≤ 6; decide, rfl, by show (6 : Word16) ≤ 6; decide⟩

theorem witness_DataOctetFolded :
    (dataAt 501 500).rxState = .data ∧ InTime (dataAt 501 500) ∧ (dataAt 501 500).rxBuf.wf = true ∧
      (dataAt 501 500).rxLen.toNat ≤ 501 ∧ (dataAt 501 500).rxIndex.toNat < (dataAt 501 500).rxLen.toNat ∧
      (dataAt 501 501).rxIndex.toNat = (dataAt 501 501).rxLen.toNat ∧
      (dataAt 501 502).rxIndex.toNat = (dataAt 501 502).rxLen.toNat + 1 ∧
      (dataAt 501 502).rxIndex.toNat < (dataAt 501 502).rxLen.toNat + 2 ∧
      dUpdate 0x9D (dataAt 501 502).rxDcrc = 0xF0B8 ∧ dUpdate 0x9C (dataAt 501 502).rxDcrc ≠ 0xF0B8 :=
  ⟨rfl, by show (6 : Word16) ≤ 6; decide, rfl, by decide⟩

theorem witness_FrameAbortTimeout :
    State.reset.rxState = .idle ∧ InTime { receiving .preamble 0 with silence := 6 } ∧
      ¬InTime { receiving .preamble 0 with silence := 7 } ∧ ¬InTime { receiving .header 5 with silence := 7 } ∧
      ¬InTime { receiving .data 0 with silence := 0xFFFF } :=
  ⟨rfl, by show (6 : Word16) ≤ 6; decide, by show ¬(7 : Word16) ≤ 6; decide, by show ¬(7 : Word16) ≤ 6; decide,
    by show ¬(0xFFFF : Word16) ≤ 6; decide⟩

/-- Bounds at their limits: a frame of 501 octets being received. -/
theorem witness_BufferBounds : BufferBounds { dataAt 501 502 with frLen := 501, txqLen := 501, rplLen := 501 } :=
  ⟨by decide, by decide, by decide, by decide⟩

theorem witness_ReceiveActivity : ∃ s : State, BufferBounds s ∧ s.rxState = .data ∧ s.eventCount = 0xFF :=
  ⟨{ dataAt 501 502 with eventCount := 0xFF }, ⟨by decide, by decide, by decide, by decide⟩, rfl, rfl⟩

theorem witness_ReceiveFrame :
    (rxSignalOf .rxNone).isSome = true ∧ (rxSignalOf (.rxByte 0)).isSome = true ∧ (rxSignalOf .rxError).isSome = true ∧
      (∃ t, exec .rxNone fresh = .next t) ∧ (∃ t, exec (.rxByte 0x9D) (dataAt 501 502) = .next t) ∧
      (∃ t, exec .rxError (dataAt 501 502) = .next t) := ⟨rfl, rfl, rfl, ⟨_, rfl⟩, ⟨_, rfl⟩, ⟨_, rfl⟩⟩

theorem witness_ReceivePostsTableResult :
    (frameResult (.octet 0x55) fresh = none ∧ ∃ t, exec (.rxByte 0x55) fresh = .next t) ∧
      (frameResult (.octet 0x36) (headerFor 5 0) = some .invalid ∧
        ∃ t, exec (.rxByte 0x36) (headerFor 5 0) = .next t) ∧
      (frameResult (.octet 0x37) (headerFor 5 0) = some .valid ∧
        ∃ t, exec (.rxByte 0x37) (headerFor 5 0) = .next t) ∧
      (frameResult .nothing { headerFor 5 0 with silence := 7 } = some .invalid ∧
        ∃ t, exec .rxNone { headerFor 5 0 with silence := 7 } = .next t) ∧
      (frameResult .error (headerFor 5 0) = some .invalid ∧ ∃ t, exec .rxError (headerFor 5 0) = .next t) :=
  ⟨⟨rfl, _, rfl⟩, ⟨rfl, _, rfl⟩, ⟨rfl, _, rfl⟩, ⟨rfl, _, rfl⟩, ⟨rfl, _, rfl⟩⟩

theorem witness_EncodedFrameIsReceived :
    fresh.rxState = .idle ∧ fresh.rxBuf.wf = true ∧ (List.replicate 501 (0xA5 : Octet)).length ≤ 501 ∧
      (5 : Octet) = fresh.cfg.ts ∧ (255 : Octet) = 255 := ⟨rfl, rfl, Nat.le_of_eq List.length_replicate, rfl, rfl⟩

theorem witness_NoPreambleNoFrame : fresh.rxState = .idle ∧ NoPreamble [] ∧ NoPreamble [0xFF, 0x55] := by
  refine ⟨rfl, fun pre post h => ?_, fun pre post h => ?_⟩
  · have := congrArg List.length h
    simp at this
  · cases pre with
    | nil => simp at h
    | cons a pre =>
      have := congrArg List.length h
      simp at this
      omega

theorem witness_SilenceClearedOnlyBy :
    (∃ t, exec (.rxByte 0) fresh = .next t) ∧ (∃ t, exec .rxError fresh = .next t) ∧
      (∃ t, exec .tick { fresh with silence := 0xFFFF } = .next t) ∧
      (∃ t, exec .ftPfm (posted 1 5 3 0) = .next t ∧ t.silence = 0) ∧
      (∃ t, exec .masterStep { fresh with silence := 500 } = .next t ∧ t.silence = 500) :=
  ⟨⟨_, rfl⟩, ⟨_, rfl⟩, ⟨_, rfl⟩, ⟨_, rfl, rfl⟩, ⟨_, rfl, rfl⟩⟩

theorem witness_ReplyTimerClearedOnlyBy :
    (∃ t, exec .ftTreq { posted 3 5 4 501 with replyTimer := 9 } = .next t ∧ t.tkState = .answerDataRequest) ∧
      (∃ t, exec .masterStep { posted 5 5 4 501 with replyTimer := 9 } = .next t ∧ t.tkState = .answerDataRequest) ∧
      (∃ t, exec .tick { fresh with replyTimer := 0xFFFF } = .next t ∧ t.tkState = .idle) :=
  ⟨⟨_, rfl, rfl⟩, ⟨_, rfl, rfl⟩, ⟨_, rfl, rfl⟩⟩

/-- A descriptor of the longest payload, and one a single octet longer. -/
def longDesc (t d : Octet) (n : Nat) : Descriptor :=
  { dType := t, dDest := d, dLen := BitVec.ofNat 16 n, dData := List.replicate n 0xA5 }

theorem longDesc_wf (t d : Octet) {n : Nat} (h : n < 65536) : (longDesc t d n).wf = true := by
  simp [longDesc, Descriptor.wf, Nat.mod_eq_of_lt h]

theorem witness_TxQueueFillsOrIgnores :
    fresh.txqData.wf = true ∧ (longDesc 6 255 501).wf = true ∧
      (fresh.txqValid = false ∧ (longDesc 6 255 501).dType = 6 ∧ (longDesc 6 255 501).dLen.toNat ≤ 501) ∧
      128 ≤ (longDesc 128 5 0).dType.toNat ∧ (longDesc 6 4 502).wf = true ∧ ¬(longDesc 6 4 502).dLen.toNat ≤ 501 ∧
      ((longDesc 5 255 1).dType = 5 ∧ (longDesc 5 255 1).dDest = 255) :=
  ⟨rfl, longDesc_wf _ _ (by omega), ⟨rfl, rfl, by decide⟩, by decide, longDesc_wf _ _ (by omega), by decide, rfl, rfl⟩

theorem witness_ReplyFillsOrIgnores :
    (answering 5 false 0).rplData.wf = true ∧ (longDesc 6 0 501).wf = true ∧
      ((answering 5 false 0).tkState = .answerDataRequest ∧ (answering 5 false 0).reqType = 5 ∧
        (answering 5 false 0).rplValid = false ∧ (longDesc 6 0 501).dLen.toNat ≤ 501) ∧
      (answering 3 false 0).reqType ≠ 5 ∧ ¬(longDesc 128 0 502).dLen.toNat ≤ 501 :=
  ⟨rfl, longDesc_wf _ _ (by omega), ⟨rfl, rfl, rfl, by decide⟩, by decide, by decide⟩

theorem witness_UnusedWordsIgnored :
    (∃ t, exec (.rxByte 0x37) { headerFor 5 0 with status := 2 } = .next t ∧
      ({ headerFor 5 0 with status := 2 } : State).cmdIgnored = true) ∧ fresh.rxState = .idle :=
  ⟨⟨_, rfl, by decide⟩, rfl⟩

theorem witness_StatusRecordsLosses :
    (ErrorCause.resultOverrun ∈ detectedCauses (.rxByte 0x37) { headerFor 5 0 with rif := true } ∧
      ∃ t, exec (.rxByte 0x37) { headerFor 5 0 with rif := true } = .next t) ∧
      (ErrorCause.commandIgnored ∈ detectedCauses (.reply (longDesc 6 0 1)) fresh ∧
        ∃ t, exec (.reply (longDesc 6 0 1)) fresh = .next t) ∧
      ∃ t, step { fresh with status := 3, inputs := [.reset defaultConfig] } = .next t :=
  ⟨⟨by decide, _, rfl⟩, ⟨by decide, _, rfl⟩, _, rfl⟩

theorem witness_InitializeAssigns :
    State.reset.tkState = .initial ∧ ∃ t, exec .tick State.reset = .next t ∧ t.tkState = .initial := ⟨rfl, _, rfl, rfl⟩

theorem witness_IdleWithoutFrame :
    (fresh.tkState = .idle ∧ fresh.cfg.tNoToken ≤ 500) ∧ (499 : Word16) < fresh.cfg.tNoToken ∧
      ({ fresh with rif := true, silence := 499 } : State).rif = true ∧ fresh.rif = false ∧ fresh.rvf = false := by
  decide

theorem witness_DetectorsConsumedByTable :
    (∃ t, exec .masterStep { State.reset with rvf := true } = .next t) ∧
      (IdleTakes { posted 2 5 4 501 with silence := 499 } ∧
        ∃ t, exec .masterStep { posted 2 5 4 501 with silence := 499 } = .next t) ∧
      (WaitTakes (waiting 3 5) ∧ ∃ t, exec .masterStep { waiting 3 5 with frType := 7 } = .next t) ∧
      (PollTakes { polling 5 6 false 20 with rvf := true } ∧
        ∃ t, exec .masterStep { polling 5 6 false 20 with rvf := true } = .next t) ∧
      (∃ t, exec .masterStep { fresh with rif := true, silence := 499 } = .next t) ∧
      (∃ t, exec .masterStep { waiting 3 5 with rvf := false, rif := true } = .next t) ∧
      (∃ t, exec .masterStep { polling 7 6 false 19 with rif := true } = .next t) ∧
      (let s : State := { posted 0 5 4 0 with tkState := .passToken }
       ¬(IdleTakes s ∨ WaitTakes s ∨ PollTakes s) ∧ s.tkState ≠ .initial ∧ ∃ t, exec .masterStep s = .next t) :=
  ⟨⟨_, rfl⟩, ⟨⟨rfl, by show (499 : Word16) < 500; decide, rfl, rfl⟩, _, rfl⟩, ⟨waitTakes_waiting 3 5, _, rfl⟩,
    ⟨pollTakes_polling, _, rfl⟩, ⟨_, rfl⟩, ⟨_, rfl⟩, ⟨_, rfl⟩,
    ⟨by simp [IdleTakes, WaitTakes, PollTakes], by decide, _, rfl⟩⟩

theorem witness_FrameRowActsAsMasterStep :
    (IdleTakes { posted 0 5 4 501 with silence := 499 } ∧ (posted 0 5 4 501).frLen.toNat ≤ 501) ∧
      WaitTakes (waiting 3 5) ∧ PollTakes { polling 5 6 false 20 with rvf := true } ∧
      (let s : State := { posted 0 5 4 501 with silence := 500 }
       ¬(IdleTakes s ∨ WaitTakes s ∨ PollTakes s)) :=
  ⟨⟨idleTakes_posted, by decide⟩, waitTakes_waiting 3 5, pollTakes_polling,
    by simp [IdleTakes, WaitTakes, PollTakes, posted, fresh, State.reset, State.resetWith, defaultConfig]⟩

/-- The hypotheses of DirectedTokenMakesHolder, DirectedPollAnswered, DirectedRequestOpensAnswer, DirectedFrameDelivered,
DirectedFrameDiscarded and DirectedFrameRowsInIdle: a posted frame of any type, so of every type they name. -/
theorem witness_DirectedFrame (t : Octet) :
    IdleTakes { posted t 5 4 501 with silence := 499 } ∧ (posted t 5 4 501).frDest = (posted t 5 4 501).cfg.ts ∧
      (posted t 5 4 501).frLen.toNat ≤ 501 ∧ (posted t 5 4 501).frType = t :=
  ⟨⟨rfl, by show (499 : Word16) < 500; decide, rfl, rfl⟩, rfl, by show (501 : Word16).toNat ≤ 501; decide, rfl⟩

theorem witness_BroadcastFrameInIdle :
    IdleTakes { posted 128 255 7 501 with silence := 499 } ∧ (posted 128 255 7 501).frDest = 255 ∧
      (posted 128 255 7 501).cfg.ts ≠ 255 ∧ (posted 128 255 7 501).frLen.toNat ≤ 501 ∧
      128 ≤ (posted 128 255 7 501).frType.toNat ∧ IdleTakes { posted 127 255 7 501 with silence := 499 } ∧
      ¬((posted 127 255 7 501).frType = 4 ∨ (posted 127 255 7 501).frType = 6 ∨
        128 ≤ (posted 127 255 7 501).frType.toNat) :=
  ⟨⟨rfl, by decide, rfl, rfl⟩, rfl, by decide, by decide, by decide, ⟨rfl, by decide, rfl, rfl⟩, by decide⟩

theorem witness_FrameWhileWaiting :
    (WaitTakes (waiting 3 5) ∧ (waiting 3 5).waitType = 3 ∧ (waiting 3 5).frDest = (waiting 3 5).cfg.ts ∧
      (waiting 3 5).frType = 4 ∧ (waiting 3 5).frLen.toNat ≤ 501) ∧
      (WaitTakes (waiting 5 5) ∧ (waiting 5 5).waitType = 5 ∧ (waiting 5 5).frDest = (waiting 5 5).cfg.ts ∧
        (waiting 5 5).frType ≠ 6 ∧ (waiting 5 5).frType ≠ 7) ∧
      (WaitTakes (waiting 3 255) ∧ (waiting 3 255).frDest ≠ (waiting 3 255).cfg.ts) :=
  ⟨⟨waitTakes_waiting 3 5, rfl, rfl, rfl, by decide⟩, ⟨waitTakes_waiting 5 5, rfl, rfl, by decide, by decide⟩,
    waitTakes_waiting 3 255, by decide⟩

theorem witness_FrameWhilePolling :
    (let s : State := { polling 5 6 false 20 with rvf := true, frDest := 5, frType := 2 }
     PollTakes s ∧ s.frDest = s.cfg.ts) ∧
      (let s : State := { polling 5 6 false 20 with rvf := true, frDest := 255, frType := 2 }
       PollTakes s ∧ s.frDest ≠ s.cfg.ts) := ⟨⟨⟨rfl, rfl⟩, rfl⟩, ⟨rfl, rfl⟩, by decide⟩

theorem witness_UseTokenBranches :
    holder.tkState = .useToken ∧ holder.txqValid = false ∧
      (let s : State := { holder with txqValid := true, txqType := 3, txqLen := 501 }
       s.tkState = .useToken ∧ s.txqLen.toNat ≤ 501 ∧ s.txqValid = true ∧ s.txqType = 3) ∧
      (let s : State := { holder with txqValid := true, txqType := 6 }
       s.txqValid = true ∧ ¬(s.txqType = 3 ∨ s.txqType = 5)) := by decide

theorem witness_WaitForReplyWithoutFrame :
    (waiting 3 5).tkState = .waitForReply ∧ (waiting 3 5).cfg.tReplyTimeout ≤ 255 ∧
      (waiting 3 5).silence < (waiting 3 5).cfg.tReplyTimeout ∧
      ({ waiting 3 5 with rvf := false, rif := true } : State).rif = true ∧
      ({ waiting 3 5 with rvf := false } : State).rif = false ∧ ({ waiting 3 5 with rvf := false } : State).rvf = false := by
  decide

theorem witness_DoneWithTokenBranches :
    (doneWith 0 50 5 5 false).tkState = .doneWithToken ∧
      (doneWith 0 50 5 5 false).frameCount < (doneWith 0 50 5 5 false).cfg.nMaxInfoFrames ∧
      (let s := doneWith 1 49 5 5 true
       s.cfg.nMaxInfoFrames ≤ s.frameCount ∧ s.tokenCount < s.cfg.nPoll ∧ s.soleMaster = true) ∧
      (let s := doneWith 1 49 7 5 false
       s.cfg.nMaxInfoFrames ≤ s.frameCount ∧ s.tokenCount < s.cfg.nPoll ∧ s.soleMaster = false) ∧
      (let s := doneWith 1 50 6 5 false
       s.cfg.nMaxInfoFrames ≤ s.frameCount ∧ s.cfg.nPoll ≤ s.tokenCount ∧ s.ns = nextOf s s.cfg.ts) ∧
      (let s := doneWith 1 50 7 5 false
       s.cfg.nPoll ≤ s.tokenCount ∧ s.ns ≠ nextOf s s.cfg.ts ∧ nextOf s s.ps ≠ s.ns) ∧
      (let s := doneWith 1 50 7 6 false
       s.cfg.nPoll ≤ s.tokenCount ∧ s.ns ≠ nextOf s s.cfg.ts ∧ nextOf s s.ps = s.ns ∧ s.soleMaster = false) ∧
      (let s := doneWith 1 50 5 4 true
       s.cfg.nPoll ≤ s.tokenCount ∧ s.ns ≠ nextOf s s.cfg.ts ∧ nextOf s s.ps = s.ns ∧ s.soleMaster = true) := by
  decide

theorem witness_PassTokenBranches :
    (let s : State := { fresh with tkState := .passToken, silence := 19, eventCount := 5 }
     s.tkState = .passToken ∧ s.silence < s.cfg.tUsageTimeout ∧ s.cfg.nMinOctets < s.eventCount) ∧
      (let s : State := { fresh with tkState := .passToken, silence := 20 }
       s.cfg.tUsageTimeout ≤ s.silence ∧ s.retryCount < s.cfg.nRetryToken) ∧
      (let s : State := { fresh with tkState := .passToken, silence := 20, retryCount := 1 }
       s.cfg.tUsageTimeout ≤ s.silence ∧ s.cfg.nRetryToken ≤ s.retryCount) ∧
      (let s : State := { fresh with tkState := .passToken, silence := 19, eventCount := 4 }
       s.silence < s.cfg.tUsageTimeout ∧ s.eventCount ≤ s.cfg.nMinOctets) := by decide

theorem witness_NoTokenBranches :
    (let s : State := { fresh with tkState := .noToken, eventCount := 5 }
     s.tkState = .noToken ∧ s.cfg.nMinOctets < s.eventCount) ∧
      (let s : State := { fresh with tkState := .noToken, eventCount := 4, silence := 550 }
       s.eventCount ≤ s.cfg.nMinOctets ∧ s.cfg.tNoToken.toNat + s.cfg.tSlot.toNat * s.cfg.ts.toNat ≤ s.silence.toNat) ∧
      (let s : State := { fresh with tkState := .noToken, eventCount := 4, silence := 549 }
       s.silence.toNat < s.cfg.tNoToken.toNat + s.cfg.tSlot.toNat * s.cfg.ts.toNat) := by decide

theorem witness_PollForMasterUnanswered :
    (let s := polling 5 4 true 20
     s.tkState = .pollForMaster ∧ s.rvf = false ∧ s.cfg.tUsageTimeout ≤ s.silence ∧ s.soleMaster = true) ∧
      (let s : State := { polling 7 6 false 19 with rif := true }
       s.rif = true ∧ s.soleMaster = false ∧ s.ns ≠ s.cfg.ts) ∧
      (let s := polling 5 6 false 20
       s.cfg.tUsageTimeout ≤ s.silence ∧ s.soleMaster = false ∧ s.ns = s.cfg.ts ∧ nextOf s s.ps ≠ s.cfg.ts) ∧
      (let s := polling 5 4 false 20
       s.cfg.tUsageTimeout ≤ s.silence ∧ s.soleMaster = false ∧ s.ns = s.cfg.ts ∧ nextOf s s.ps = s.cfg.ts) ∧
      (let s := polling 5 6 false 19
       ¬(s.cfg.tUsageTimeout ≤ s.silence ∨ s.rif = true)) := by decide

theorem witness_AnswerDataRequestBranches :
    BufferBounds { answering 3 false 224 with frLen := 501, rplLen := 501 } ∧
      ((answering 3 false 224).tkState = .answerDataRequest ∧ (answering 3 false 224).reqType = 3 ∧
        (answering 3 false 224).replyTimer < (answering 3 false 224).cfg.tReplyDelay) ∧
      ((answering 5 true 224).reqType = 5 ∧ (answering 5 true 224).rplValid = true) ∧
      (answering 5 true 225).cfg.tReplyDelay ≤ (answering 5 true 225).replyTimer ∧
      (answering 5 false 224).rplValid = false :=
  ⟨⟨by decide, by decide, by decide, by decide⟩, ⟨rfl, rfl, by decide⟩, ⟨rfl, rfl⟩, by decide, rfl⟩

theorem witness_UnusedTokenStatesStay :
    (let s : State := { fresh with tkState := .unused 6 }
     s.tkState = .unused 6 ∧ ∃ t, exec .tick s = .next t ∧ t.tkState = .unused 6) ∧
      ∃ t, step { fresh with tkState := .unused 0, inputs := [.reset defaultConfig] } = .next t :=
  ⟨⟨rfl, _, rfl, rfl⟩, _, rfl⟩

/-- The hypotheses of AtMostOneEvent and of TokenMachineFrame. -/
theorem witness_TokenMachine :
    (∃ t, exec .masterStep (doneWith 1 50 7 5 false) = .next t ∧ t.events ≠ []) ∧
      (∃ t, exec (frameInstr 6) (posted 6 255 7 501) = .next t ∧ t.events ≠ []) :=
  ⟨⟨_, rfl, by decide⟩, _, rfl, by simp [posted, fresh, State.reset, State.resetWith]⟩

theorem witness_SoleMasterSetOnlyByR170 :
    (∃ t, exec .masterStep (polling 5 4 false 20) = .next t ∧ (polling 5 4 false 20).soleMaster = false ∧
      t.soleMaster = true) ∧
      (∃ t, exec .ftToken { posted 0 5 4 0 with soleMaster := true } = .next t ∧ t.soleMaster = false) :=
  ⟨⟨_, rfl, rfl, rfl⟩, _, rfl, rfl⟩

theorem witness_ConfigFixedBetweenResets :
    ∃ t, step { fresh with inputs := [.reset { defaultConfig with ts := 6 }] } = .next t ∧ t.cfg ≠ fresh.cfg :=
  ⟨_, rfl, by decide⟩

/-- The reset clauses of SilenceClearedOnlyBy, ReplyTimerClearedOnlyBy, StatusRecordsLosses, ConfigFixedBetweenResets and
UnusedTokenStatesStay. -/
theorem witness_reset_step :
    (let s : State := { fresh with silence := 9, replyTimer := 9, status := 3, inputs := [.reset defaultConfig] }
     s.inputs = [.reset defaultConfig] ∧ ∃ t, step s = .next t) := ⟨rfl, _, rfl⟩

theorem witness_ResetFromEveryState :
    configLegal defaultConfig = true ∧ configLegal { defaultConfig with ts := 128 } = false ∧
      configLegal { defaultConfig with nMaxMaster := 254, ts := 254 } = true ∧
      configLegal { defaultConfig with nMinOctets := 255 } = false ∧
      configLegal { defaultConfig with tFrameAbort := 0xFFFF } = false := by decide

theorem witness_StepRunsDecodedInstruction :
    (let s : State := { posted 3 5 4 0 with inputs := [.command (.plain 0x4000)] }
     s.inputs = [.command (.plain 0x4000)] ∧ configLegal s.cfg = true ∧
       decode (fetchCode (.plain 0x4000) s) = .ok .ftTreq ∧ decode (.command (.plain 0x4000)) = .ok .masterStep) := by
  decide

/-- A node about to pass the token, with `first` next in its own stream, beside a node whose stream is over. -/
def busOf (first : Input) : Bus :=
  [{ doneWith 1 50 7 5 false with inputs := [first] }, { fresh with cfg := { defaultConfig with ts := 6 } }]

theorem witness_BusDeliversToTheOthers :
    (let b := busOf (.command (.plain 0x4000))
     b[0]? = some { doneWith 1 50 7 5 false with inputs := [.command (.plain 0x4000)] } ∧
       (∃ b', busCommand 0 (.plain 0x4000) b = .next b') ∧
       nextIsTick { doneWith 1 50 7 5 false with inputs := [.command (.plain 0x4000)] } = false ∧
       ∃ b', busStep 0 b = .next b') ∧
    (let b := busOf (.command (.plain 0x3000))
     nextIsTick { doneWith 1 50 7 5 false with inputs := [.command (.plain 0x3000)] } = true ∧
       b.all awaitsTick = true ∧ (∃ b', busStep 0 b = .next b') ∧
       (b ++ busOf (.command (.plain 0x0000))).all awaitsTick = false) ∧
    configLegal { defaultConfig with ts := 6 } = true :=
  ⟨⟨rfl, ⟨_, rfl⟩, rfl, _, rfl⟩, ⟨rfl, rfl, ⟨_, rfl⟩, rfl⟩, by decide⟩

/-- A state with the invariant that is not the reset state: a holder with a frame queued and a command to come. -/
def busyHolder : State :=
  { holder with
    txqValid := true, txqType := 6, txqDest := 4, txqLen := 1, txqData := [(0, 0x01)]
    inputs := [.command (.plain 0x4000)] }

theorem witness_Inv : Inv busyHolder := by
  constructor <;> first | exact ⟨by decide, by decide, by decide, by decide⟩ | decide

theorem witness_InvariantKeptByEveryStep : Inv busyHolder ∧ ∃ t, step busyHolder = .next t ∧ t.events ≠ [] :=
  ⟨witness_Inv, _, rfl, by decide⟩

theorem witness_EveryCommandCompletes : ∃ s : State, Inv s ∧ s.tkState = .useToken := ⟨busyHolder, witness_Inv, rfl⟩

end Sys2Proof.Tests
end

section
/-! PROOFS. The state family (10_state.md): which instructions may write the token machine's registers, and what
sets and clears `sole_master` and the configuration. -/

namespace Sys2Proof.Machine
open Sys2Proof.Statements

/-! ## Instructions that are not the token machine's -/

/-- The configuration and the token machine's own registers are the same in both states. `event_count` is not among
them: the activity phase writes it too (41_receive_fsm.md R99). -/
structure TokenRegsKept (s t : State) : Prop where
  cfg : t.cfg = s.cfg
  tkState : t.tkState = s.tkState
  ns : t.ns = s.ns
  ps : t.ps = s.ps
  soleMaster : t.soleMaster = s.soleMaster
  tokenCount : t.tokenCount = s.tokenCount
  frameCount : t.frameCount = s.frameCount
  retryCount : t.retryCount = s.retryCount
  reqSrc : t.reqSrc = s.reqSrc
  reqType : t.reqType = s.reqType
  waitType : t.waitType = s.waitType

theorem TokenRegsKept.refl (s : State) : TokenRegsKept s s := by
  constructor <;> rfl

/-- An octet, in whatever receive state it finds, leaves the token machine's registers alone. -/
theorem receiveByte_keepsTokenRegs {v : Octet} {s t : State} (h : receiveByte v s = .next t) : TokenRegsKept s t := by
  unfold receiveByte at h
  cases hr : s.rxState <;> simp only [hr] at h
  case idle => cases h; constructor <;> simp
  case preamble => cases h; constructor <;> simp
  case header => cases h; constructor <;> simp
  case data =>
    obtain ⟨-, -, rfl⟩ | ⟨-, rfl⟩ := dataByte_next h
    · constructor <;> simp
    · constructor <;> simp

theorem execRxNone_keepsTokenRegs {s t : State} (h : execRxNone s = .next t) : TokenRegsKept s t := by
  cases h
  constructor <;> simp

theorem execRxByte_keepsTokenRegs {v : Octet} {s t : State} (h : execRxByte v s = .next t) : TokenRegsKept s t := by
  have k := receiveByte_keepsTokenRegs h
  constructor <;> simp [k.cfg, k.tkState, k.ns, k.ps, k.soleMaster, k.tokenCount, k.frameCount, k.retryCount, k.reqSrc,
    k.reqType, k.waitType]

theorem execRxError_keepsTokenRegs {s t : State} (h : execRxError s = .next t) : TokenRegsKept s t := by
  cases h
  constructor <;> simp

theorem execTick_keepsTokenRegs {s t : State} (h : execTick s = .next t) : TokenRegsKept s t := by
  cases h
  constructor <;> rfl

theorem ignoreCommand_keepsTokenRegs (s : State) : TokenRegsKept s (ignoreCommand s) := by
  constructor <;> rfl

theorem execTxQueue_keepsTokenRegs {d : Descriptor} {s t : State} (h : execTxQueue d s = .next t) :
    TokenRegsKept s t := by
  unfold execTxQueue at h
  split at h
  · cases h; constructor <;> rfl
  · cases h; exact ignoreCommand_keepsTokenRegs s

theorem execReply_keepsTokenRegs {d : Descriptor} {s t : State} (h : execReply d s = .next t) :
    TokenRegsKept s t := by
  unfold execReply at h
  split at h
  · cases h; constructor <;> rfl
  · cases h; exact ignoreCommand_keepsTokenRegs s

/-- All that a frame-type row can do when it answers a next state: nothing, or the action on a frame that is taken. -/
theorem takeFrame_next {ty : Octet} {s t : State} (h : takeFrame ty s = .next t) :
    t = s ∨ (takesFrame s = true ∧ frameAction ty s = .next t) := by
  cases hf : takesFrame s with
  | true => exact .inr ⟨rfl, takeFrame_of_takes hf ▸ h⟩
  | false => rw [takeFrame_of_not_takes hf] at h; cases h; exact .inl rfl

/-- Who may write the token machine's registers: a MASTER_STEP, and a frame-type row whose frame is taken. -/
theorem exec_next_cases {i : Instr} {s t : State} (h : exec i s = .next t) :
    TokenRegsKept s t ∨ (i = .masterStep ∧ execMasterStep s = .next t) ∨
      ∃ ty, encode i = .frameType ty ∧ takesFrame s = true ∧ frameAction ty s = .next t := by
  cases i with
  | rxNone => exact .inl (execRxNone_keepsTokenRegs h)
  | rxByte v => exact .inl (execRxByte_keepsTokenRegs h)
  | rxError => exact .inl (execRxError_keepsTokenRegs h)
  | tick => exact .inl (execTick_keepsTokenRegs h)
  | masterStep => exact .inr (.inl ⟨rfl, h⟩)
  | txQueue d => exact .inl (execTxQueue_keepsTokenRegs h)
  | reply d => exact .inl (execReply_keepsTokenRegs h)
  | reservedOp7 | reservedOp8F | malformed => cases h; exact .inl (ignoreCommand_keepsTokenRegs s)
  | ftToken | ftPfm | ftRpfm | ftTreq | ftTrsp | ftDer | ftDner | ftRp
  | ftReserved08 | ftReserved10 | ftReserved20 | ftReserved40 | ftProprietary =>
    obtain rfl | hf := takeFrame_next h
    · exact .inl (.refl _)
    · exact .inr (.inr ⟨_, rfl, hf⟩)

/-! ## What a taken frame does -/

/-- The model's test for a frame being taken is the statements' three cases (42_token_fsm.md R177). -/
theorem takesFrame_iff (s : State) : takesFrame s = true ↔ IdleTakes s ∨ WaitTakes s ∨ PollTakes s := by
  unfold takesFrame IdleTakes WaitTakes PollTakes
  cases hs : s.tkState <;> simp [tokenLost, replyTimedOut, and_comm, and_assoc]

/-- An Indicate leaves every register alone. -/
theorem indicate_keepsTokenRegs {ty : Octet} {s t : State} (h : indicate ty s = .next t) : TokenRegsKept s t := by
  obtain ⟨-, rfl⟩ := indicate_next h
  constructor <;> rfl

/-- A frame addressed to this station in Idle: only a Token writes `sole_master` (42_token_fsm.md R135 to R139). -/
theorem idleDirected_next {ty : Octet} {s t : State} (h : idleDirected ty s = .next t) :
    t.cfg = s.cfg ∧ (t.soleMaster = s.soleMaster ∨ (t.soleMaster = false ∧ t.tkState = .useToken)) := by
  unfold idleDirected at h
  split at h
  · cases h; exact ⟨rfl, .inr ⟨rfl, rfl⟩⟩
  split at h
  · cases h; exact ⟨rfl, .inl rfl⟩
  split at h
  · cases h; exact ⟨rfl, .inl rfl⟩
  split at h
  · have k := indicate_keepsTokenRegs h; exact ⟨k.cfg, .inl k.soleMaster⟩
  split at h
  · have k := indicate_keepsTokenRegs h; exact ⟨k.cfg, .inl k.soleMaster⟩
  · cases h; exact ⟨rfl, .inl rfl⟩

theorem idleBroadcast_keepsTokenRegs {ty : Octet} {s t : State} (h : idleBroadcast ty s = .next t) :
    TokenRegsKept s t := by
  unfold idleBroadcast at h
  split at h
  · exact indicate_keepsTokenRegs h
  · cases h; exact .refl s

/-- A frame taken in Idle (42_token_fsm.md R134). -/
theorem idleFrame_next {ty : Octet} {s t : State} (h : idleFrame ty s = .next t) :
    t.cfg = s.cfg ∧
      (t.soleMaster = s.soleMaster ∨ (t.soleMaster = false ∧ s.frDest = s.cfg.ts ∧ t.tkState = .useToken)) := by
  unfold idleFrame at h
  split at h
  · obtain ⟨hc, hk | ⟨h0, hu⟩⟩ := idleDirected_next h
    · exact ⟨hc, .inl hk⟩
    · exact ⟨hc, .inr ⟨h0, ‹_›, hu⟩⟩
  split at h
  · have k := idleBroadcast_keepsTokenRegs h; exact ⟨k.cfg, .inl k.soleMaster⟩
  · cases h; exact ⟨rfl, .inl rfl⟩

/-- A frame taken in WaitForReply (42_token_fsm.md R147 to R149). -/
theorem waitFrame_next {ty : Octet} {s t : State} (h : waitFrame ty s = .next t) :
    t.cfg = s.cfg ∧ t.soleMaster = s.soleMaster := by
  unfold waitFrame at h
  split at h
  · have k := indicate_keepsTokenRegs h; exact ⟨k.cfg, k.soleMaster⟩
  split at h
  · cases h; exact ⟨rfl, rfl⟩
  · cases h; exact ⟨rfl, rfl⟩

/-- A frame taken in PollForMaster (42_token_fsm.md R165, R166). -/
theorem pollFrame_next {ty : Octet} {s t : State} (h : pollFrame ty s = .next t) :
    t.cfg = s.cfg ∧
      (t.soleMaster = s.soleMaster ∨ (t.soleMaster = false ∧ s.frDest = s.cfg.ts ∧ t.tkState = .passToken)) := by
  unfold pollFrame at h
  split at h
  next hd => cases h; exact ⟨rfl, .inr ⟨rfl, hd.1, rfl⟩⟩
  next => cases h; exact ⟨rfl, .inl rfl⟩

/-- The two frames that clear `sole_master`: one taken in Idle that gives UseToken, one taken in PollForMaster that
gives PassToken (10_state.md R26; 42_token_fsm.md R135, R165). -/
def ClearedByFrame (s t : State) : Prop :=
  (IdleTakes s ∧ s.frDest = s.cfg.ts ∧ t.tkState = .useToken) ∨
    (PollTakes s ∧ s.frDest = s.cfg.ts ∧ t.tkState = .passToken)

/-- What a taken frame does to the configuration and to `sole_master`: it never sets it. -/
theorem frameAction_next {ty : Octet} {s t : State} (hf : takesFrame s = true) (h : frameAction ty s = .next t) :
    t.cfg = s.cfg ∧ (t.soleMaster = s.soleMaster ∨ (t.soleMaster = false ∧ ClearedByFrame s t)) := by
  obtain hs | hs | hs := (takesFrame_iff s).1 hf
  · simp only [frameAction, hs.1] at h
    obtain ⟨hc, hk | ⟨h0, hd, hu⟩⟩ := idleFrame_next h
    · exact ⟨hc, .inl hk⟩
    · exact ⟨hc, .inr ⟨h0, .inl ⟨hs, hd, hu⟩⟩⟩
  · simp only [frameAction, hs.1] at h
    obtain ⟨hc, hk⟩ := waitFrame_next h
    exact ⟨hc, .inl hk⟩
  · simp only [frameAction, hs.1] at h
    obtain ⟨hc, hk | ⟨h0, hd, hp⟩⟩ := pollFrame_next h
    · exact ⟨hc, .inl hk⟩
    · exact ⟨hc, .inr ⟨h0, .inr ⟨hs, hd, hp⟩⟩⟩

/-! ## What MASTER_STEP does where it takes no frame -/

theorem useTokenStep_next {s t : State} (h : useTokenStep s = .next t) :
    t.cfg = s.cfg ∧ t.soleMaster = s.soleMaster := by
  unfold useTokenStep at h
  split at h
  · cases h; exact ⟨rfl, rfl⟩
  · obtain ⟨-, h⟩ := withOctets_next h
    split at h
    · cases h; exact ⟨rfl, rfl⟩
    · cases h; exact ⟨rfl, rfl⟩

theorem answerStep_next {s t : State} (h : answerStep s = .next t) :
    t.cfg = s.cfg ∧ t.soleMaster = s.soleMaster := by
  unfold answerStep at h
  split at h
  · obtain ⟨-, h⟩ := withOctets_next h; cases h; exact ⟨rfl, rfl⟩
  split at h
  · obtain ⟨-, h⟩ := withOctets_next h; cases h; exact ⟨rfl, rfl⟩
  split at h
  · cases h; exact ⟨rfl, rfl⟩
  · cases h; exact ⟨rfl, rfl⟩

/-- Idle, where it takes no frame (42_token_fsm.md R132, R133, R141). -/
theorem idleStep_next {s t : State} (hs : s.tkState = .idle) (hf : takesFrame s = false)
    (h : idleStep s = .next t) : t.cfg = s.cfg ∧ t.soleMaster = s.soleMaster := by
  unfold idleStep at h
  split at h
  · cases h; exact ⟨rfl, rfl⟩
  split at h
  · cases h; exact ⟨rfl, rfl⟩
  split at h
  · simp_all [takesFrame]
  · cases h; exact ⟨rfl, rfl⟩

theorem waitStep_next {s t : State} (h : waitStep s = .next t) :
    t.cfg = s.cfg ∧ t.soleMaster = s.soleMaster := by
  unfold waitStep at h
  split at h
  · cases h; exact ⟨rfl, rfl⟩
  split at h
  · cases h; exact ⟨rfl, rfl⟩
  split at h
  · exact waitFrame_next h
  · cases h; exact ⟨rfl, rfl⟩

/-- The conditions of 42_token_fsm.md R170: no other master answered the poll of every address. -/
def SoleMasterFound (s : State) : Prop :=
  s.tkState = .pollForMaster ∧ s.rvf = false ∧ s.ns = s.cfg.ts ∧ nextOf s s.ps = s.cfg.ts ∧
    (s.cfg.tUsageTimeout ≤ s.silence ∨ s.rif = true)

/-- An unanswered poll writes `sole_master` in its last branch only (42_token_fsm.md R167 to R171). -/
theorem pollUnanswered_soleMaster (s : State) :
    (pollUnanswered s).soleMaster = s.soleMaster ∨
      ((pollUnanswered s).soleMaster = true ∧ pollTimedOut s = true ∧ s.ns = s.cfg.ts ∧
        nextStation s.cfg s.ps = s.cfg.ts) := by
  unfold pollUnanswered
  split
  · exact .inl rfl
  split
  · exact .inl rfl
  split
  · exact .inl rfl
  split
  · exact .inl rfl
  · exact .inr ⟨rfl, by simp_all⟩

/-- PollForMaster, where it takes no frame. -/
theorem pollStep_next {s t : State} (hs : s.tkState = .pollForMaster) (hf : takesFrame s = false)
    (h : pollStep s = .next t) :
    t.cfg = s.cfg ∧ (t.soleMaster = s.soleMaster ∨ (t.soleMaster = true ∧ SoleMasterFound s)) := by
  have hv : s.rvf = false := by simpa [takesFrame, hs] using hf
  simp only [pollStep, hv, Bool.false_eq_true, if_false] at h
  cases h
  refine ⟨by simp, (pollUnanswered_soleMaster s).imp_right ?_⟩
  rintro ⟨h1, hto, hns, hnx⟩
  exact ⟨h1, hs, hv, hns, hnx, by simpa [pollTimedOut, usageTimedOut] using hto⟩

/-- What a MASTER_STEP does to the configuration and to `sole_master`. -/
theorem execMasterStep_next {s t : State} (h : execMasterStep s = .next t) :
    t.cfg = s.cfg ∧
      (t.soleMaster = s.soleMaster ∨ (t.soleMaster = false ∧ (s.tkState = .initial ∨ ClearedByFrame s t)) ∨
        (t.soleMaster = true ∧ SoleMasterFound s)) := by
  cases hf : takesFrame s with
  | true =>
    obtain ⟨hc, hk⟩ := frameAction_next hf (execMasterStep_of_takesFrame hf ▸ h)
    exact ⟨hc, hk.imp_right fun ⟨h0, hcl⟩ => .inl ⟨h0, .inr hcl⟩⟩
  | false =>
    unfold execMasterStep at h
    cases hs : s.tkState <;> simp only [hs] at h
    case initial => cases h; exact ⟨rfl, .inr (.inl ⟨rfl, .inl rfl⟩)⟩
    case idle => exact (idleStep_next hs hf h).imp_right .inl
    case useToken => exact (useTokenStep_next h).imp_right .inl
    case waitForReply => exact (waitStep_next h).imp_right .inl
    case doneWithToken => cases h; exact ⟨doneStep_cfg s, .inl (doneStep_soleMaster s)⟩
    case passToken => cases h; exact ⟨passStep_cfg s, .inl (passStep_soleMaster s)⟩
    case noToken => cases h; exact ⟨noTokenStep_cfg s, .inl (noTokenStep_soleMaster s)⟩
    case pollForMaster => exact (pollStep_next hs hf h).imp_right (Or.imp_right .inr)
    case answerDataRequest => exact (answerStep_next h).imp_right .inl
    case unused => cases h; exact ⟨rfl, .inl rfl⟩

/-! ## Every instruction -/

/-- What an instruction does to the configuration and to `sole_master` (10_state.md R16, R26). -/
theorem exec_cfg_soleMaster {i : Instr} {s t : State} (h : exec i s = .next t) :
    t.cfg = s.cfg ∧
      (t.soleMaster = s.soleMaster ∨ (t.soleMaster = false ∧ (s.tkState = .initial ∨ ClearedByFrame s t)) ∨
        (t.soleMaster = true ∧ i = .masterStep ∧ SoleMasterFound s)) := by
  obtain k | ⟨rfl, hm⟩ | ⟨ty, -, hf, ha⟩ := exec_next_cases h
  · exact ⟨k.cfg, .inl k.soleMaster⟩
  · obtain ⟨hc, hk⟩ := execMasterStep_next hm
    exact ⟨hc, hk.imp_right (Or.imp_right fun ⟨h1, hr⟩ => ⟨h1, rfl, hr⟩)⟩
  · obtain ⟨hc, hk⟩ := frameAction_next hf ha
    exact ⟨hc, hk.imp_right fun ⟨h0, hcl⟩ => .inl ⟨h0, .inr hcl⟩⟩

/-- A command keeps the configuration, whatever it decodes to. -/
theorem runCommand_cfg {c : Command} {s t : State} (h : runCommand c s = .next t) : t.cfg = s.cfg := by
  unfold runCommand at h
  split at h
  · split at h
    · exact (exec_cfg_soleMaster h).1
    · cases h
  · cases h

/-- A reset that is not refused leaves the configuration presented with it. -/
theorem applyReset_cfg {cfg : Config} {s t : State} (h : applyReset cfg s = .next t) : t.cfg = cfg := by
  unfold applyReset at h
  split at h
  · cases h; rfl
  · cases h

/-- A step that takes a reset leaves exactly the configuration presented with it. -/
theorem step_cfg_of_reset {s t : State} {cfg : Config} {rest : List Input} (hin : s.inputs = .reset cfg :: rest)
    (h : step s = .next t) : t.cfg = cfg := by
  rw [step_of_input hin] at h
  exact applyReset_cfg h

/-- A step that takes a command keeps the configuration. -/
theorem step_cfg_of_command {s t : State} {c : Command} {rest : List Input} (hin : s.inputs = .command c :: rest)
    (h : step s = .next t) : t.cfg = s.cfg := by
  rw [step_of_input hin] at h
  exact runCommand_cfg (s := { s with inputs := rest }) h

/-- Settles O53: `sole_master` is written by MASTER_STEP and by taken frames only, and there branch by branch. -/
theorem soleMasterSetOnlyByR170 : Obligations.SoleMasterSetOnlyByR170 := by
  intro i s t h
  obtain ⟨-, hkept | ⟨hclear, hwhy⟩ | ⟨hset, hi, hfound⟩⟩ := exec_cfg_soleMaster h
  · exact ⟨fun h0 h1 => by simp [hkept, h0] at h1, fun h1 h0 => by simp [hkept, h1] at h0⟩
  · exact ⟨fun _ h1 => by simp [hclear] at h1, fun _ _ => hwhy⟩
  · exact ⟨fun _ _ => ⟨hi, hfound⟩, fun _ h0 => by simp [hset] at h0⟩

/-- Settles O54: every instruction keeps the configuration, so a step that changes it took a reset from the stream. -/
theorem configFixedBetweenResets : Obligations.ConfigFixedBetweenResets := by
  refine ⟨fun i s t h => (exec_cfg_soleMaster h).1, fun s t cfg rest hin h => step_cfg_of_reset hin h,
    fun s t h hne => ?_⟩
  cases hin : s.inputs with
  | nil =>
    rw [step_of_no_input hin] at h
    cases h
    exact absurd rfl hne
  | cons x rest =>
    cases x with
    | command c => exact absurd (step_cfg_of_command hin h) hne
    | reset cfg => exact ⟨rest, by rw [step_cfg_of_reset hin h]⟩

end Sys2Proof.Machine
end

section
/-! PROOFS. The receiver's family (41_receive_fsm.md): what each receive command does in each receive state, and what
no receive command writes. -/

namespace Sys2Proof.Machine
open Sys2Proof.Statements

/-! ## Posting a result -/

/-- The model's status after a post is the statements' (41_receive_fsm.md R115). -/
theorem statusAfterPost_eq (s : State) : statusAfterPost s = statusPosted s := by
  simp [statusAfterPost, statusPosted]

/-- Invalid posted on the way to Idle. -/
theorem postInvalid_toIdle (s : State) :
    { postInvalid s with rxState := .idle } =
      { s with rxState := .idle, rif := true, rvf := false, status := statusPosted s } := by
  simp only [postInvalid, statusAfterPost_eq]

/-- Valid posted on the way to Idle, with the latch copied. -/
theorem postValid_toIdle (s : State) :
    { postValid s with rxState := .idle } =
      { s with
        rxState := .idle, rvf := true, rif := false, status := statusPosted s
        frType := s.rxType, frDest := s.rxDest, frSrc := s.rxSrc, frLen := s.rxLen } := by
  simp only [postValid, statusAfterPost_eq]

/-! ## The timeout phase -/

theorem timeoutPhase_of_inTime {s : State} (h : InTime s) : timeoutPhase s = s :=
  timeoutPhase_of_not_aborts (by simpa [frameAborts] using fun _ => show s.silence ≤ s.cfg.tFrameAbort from h)

theorem timeoutPhase_of_idle {s : State} (h : s.rxState = .idle) : timeoutPhase s = s :=
  timeoutPhase_of_not_aborts (frameAborts_idle h)

/-- Outside Idle the comparator is the statements' premise. -/
theorem frameAborts_of_late {s : State} (hr : s.rxState ≠ .idle) (h : ¬InTime s) : frameAborts s = true := by
  simpa [frameAborts, hr, InTime] using h

theorem timeoutPhase_of_late_preamble {s : State} (hr : s.rxState = .preamble) (h : ¬InTime s) :
    timeoutPhase s = { s with rxState := .idle } := by
  simp [timeoutPhase, frameAborts_of_late (by simp [hr]) h, hr]

theorem timeoutPhase_of_late_frame {s : State} (hr : s.rxState = .header ∨ s.rxState = .data) (h : ¬InTime s) :
    timeoutPhase s = { s with rxState := .idle, rif := true, rvf := false, status := statusPosted s } := by
  rw [← postInvalid_toIdle]
  obtain hr | hr := hr <;> simp [timeoutPhase, frameAborts_of_late (by simp [hr]) h, hr]

/-- The timeout phase leads to Idle or nowhere. -/
theorem timeoutPhase_rxState_ne_data {s : State} (h : s.rxState ≠ .data) : (timeoutPhase s).rxState ≠ .data := by
  obtain ⟨-, e⟩ | ⟨-, -, e⟩ | ⟨-, -, e⟩ := timeoutPhase_cases s <;> simp [e, h]

/-- What follows a timeout phase that ends in Idle is what the state so reached does by itself, since no further
timeout holds there. -/
theorem exec_of_timeoutPhase {s t : State} (h : timeoutPhase s = t) (hr : t.rxState = .idle) :
    exec .rxNone s = .next t ∧ (∀ v, exec (.rxByte v) s = exec (.rxByte v) t) ∧
      exec .rxError s = exec .rxError t := by
  have ht := timeoutPhase_of_idle hr
  simp [exec, execRxNone, execRxByte, execRxError, h, ht]

/-- Settles O17: the timeout phase, case by case, and then the state it reaches. -/
theorem frameAbortTimeout : Obligations.FrameAbortTimeout := by
  intro s
  refine ⟨?_, fun hr hl => exec_of_timeoutPhase (timeoutPhase_of_late_preamble hr hl) rfl,
    fun hr hl => exec_of_timeoutPhase (timeoutPhase_of_late_frame hr hl) rfl⟩
  rintro (hr | ht)
  · exact congrArg Host.Outcome.next (timeoutPhase_of_idle hr)
  · exact congrArg Host.Outcome.next (timeoutPhase_of_inTime ht)

/-! ## An octet or an error where no timeout holds -/

theorem exec_rxByte_of_no_timeout {v : Octet} {s : State} (h : timeoutPhase s = s) :
    exec (.rxByte v) s = receiveByte v (activityPhase s) := by
  simp [exec, execRxByte, h]

theorem exec_rxError_of_no_timeout {s : State} (h : timeoutPhase s = s) :
    exec .rxError s = .next (receiveError (activityPhase s)) := by
  simp [exec, execRxError, h]

theorem receiveByte_idle {v : Octet} {s : State} (h : s.rxState = .idle) :
    receiveByte v s = .next (idleByte v s) := by
  simp [receiveByte, h]

theorem receiveByte_preamble {v : Octet} {s : State} (h : s.rxState = .preamble) :
    receiveByte v s = .next (preambleByte v s) := by
  simp [receiveByte, h]

theorem receiveByte_header {v : Octet} {s : State} (h : s.rxState = .header) :
    receiveByte v s = .next (headerByte v s) := by
  simp [receiveByte, h]

theorem receiveByte_data {v : Octet} {s : State} (h : s.rxState = .data) : receiveByte v s = dataByte v s := by
  simp [receiveByte, h]

theorem receiveError_idle {s : State} (h : s.rxState = .idle) : receiveError s = s := by
  simp [receiveError, h]

theorem receiveError_preamble {s : State} (h : s.rxState = .preamble) :
    receiveError s = { s with rxState := .idle } := by
  simp [receiveError, h]

theorem receiveError_frame {s : State} (h : s.rxState = .header ∨ s.rxState = .data) :
    receiveError s = { s with rxState := .idle, rif := true, rvf := false, status := statusPosted s } := by
  rw [← postInvalid_toIdle]
  obtain h | h := h <;> simp [receiveError, h]

/-! ## Idle and Preamble -/

theorem idleByte_other {v : Octet} {s : State} (h : v ≠ preambleOne) : idleByte v s = s := if_neg h

theorem preambleByte_other {v : Octet} {s : State} (h1 : v ≠ preambleOne) (h2 : v ≠ preambleTwo) :
    preambleByte v s = { s with rxState := .idle } :=
  (if_neg h2).trans (if_neg h1)

theorem exec_rxByte_idle {v : Octet} {s : State} (h : s.rxState = .idle) :
    exec (.rxByte v) s = .next (idleByte v (activityPhase s)) :=
  (exec_rxByte_of_no_timeout (timeoutPhase_of_idle h)).trans (receiveByte_idle h)

/-- Settles O11: no timeout holds in Idle, and only 0x55 opens a preamble. -/
theorem idleOctetOrError : Obligations.IdleOctetOrError := by
  intro s hr
  refine ⟨exec_rxByte_idle hr, fun v hv => ?_, ?_⟩
  · rw [exec_rxByte_idle hr, idleByte_other hv]
    rfl
  · rw [exec_rxError_of_no_timeout (timeoutPhase_of_idle hr), receiveError_idle (by simpa using hr)]
    rfl

theorem exec_rxByte_preamble {v : Octet} {s : State} (hr : s.rxState = .preamble) (ht : InTime s) :
    exec (.rxByte v) s = .next (preambleByte v (activityPhase s)) :=
  (exec_rxByte_of_no_timeout (timeoutPhase_of_inTime ht)).trans (receiveByte_preamble hr)

/-- Settles O12: 0xFF, 0x55 and every other octet are the three branches of Preamble. -/
theorem preambleOctetOrError : Obligations.PreambleOctetOrError := by
  intro s hr ht
  refine ⟨exec_rxByte_preamble hr ht, exec_rxByte_preamble hr ht, fun v h1 h2 => ?_, ?_⟩
  · rw [exec_rxByte_preamble hr ht, preambleByte_other h1 h2]
    rfl
  · rw [exec_rxError_of_no_timeout (timeoutPhase_of_inTime ht), receiveError_preamble (by simpa using hr)]
    rfl

/-- Settles O15: in time, the error itself posts Invalid. -/
theorem errorAbortsFrame : Obligations.ErrorAbortsFrame := by
  intro s hr ht
  rw [exec_rxError_of_no_timeout (timeoutPhase_of_inTime ht), receiveError_frame (by simpa using hr)]
  rfl

/-! ## The sixth header octet -/

/-- The sixth header octet is folded and counted, stored nowhere, and runs HeaderCrc (41_receive_fsm.md R107, R110). -/
theorem headerByte_sixth {v : Octet} {s : State} (h : s.rxIndex = 5) :
    headerByte v s = headerCrcPhase { s with rxHcrc := hUpdate v s.rxHcrc, rxIndex := 6 } := by
  simp [headerByte, storeHeader, h, satInc10]

section
variable {s : State}

theorem headerCrcPhase_badCrc (h : s.rxHcrc ≠ hGood) : headerCrcPhase s = { postInvalid s with rxState := .idle } :=
  if_pos h

theorem headerCrcPhase_elsewhere (h : s.rxHcrc = hGood) (h1 : s.rxDest ≠ s.cfg.ts) (h2 : s.rxDest ≠ broadcast) :
    headerCrcPhase s = { s with rxState := .idle } := by
  simp [headerCrcPhase, h, h1, h2]

variable (h : s.rxHcrc = hGood) (hd : s.rxDest = s.cfg.ts ∨ s.rxDest = broadcast)
include h hd

/-- A good header addressed here: only the length is left to decide (41_receive_fsm.md R110 (c) to (e)). -/
theorem headerCrcPhase_here :
    headerCrcPhase s =
      if nMaxData < s.rxLen.toNat then { postInvalid s with rxState := .idle }
      else if s.rxLen = 0 then { postValid s with rxState := .idle }
      else { s with rxDcrc := dInit, rxIndex := 0, rxState := .data } := by
  have hd' : ¬(s.rxDest ≠ s.cfg.ts ∧ s.rxDest ≠ broadcast) := by tauto
  rw [headerCrcPhase, if_neg (not_not.2 h), if_neg hd']

theorem headerCrcPhase_tooLong (hl : nMaxData < s.rxLen.toNat) :
    headerCrcPhase s = { postInvalid s with rxState := .idle } := by
  rw [headerCrcPhase_here h hd, if_pos hl]

theorem headerCrcPhase_empty (hl : s.rxLen = 0) : headerCrcPhase s = { postValid s with rxState := .idle } := by
  rw [headerCrcPhase_here h hd, if_neg (by simp [hl]), if_pos hl]

theorem headerCrcPhase_payload (hl : s.rxLen.toNat ≤ nMaxData) (h0 : s.rxLen ≠ 0) :
    headerCrcPhase s = { s with rxDcrc := dInit, rxIndex := 0, rxState := .data } := by
  rw [headerCrcPhase_here h hd, if_neg (Nat.not_lt.2 hl), if_neg h0]

end

theorem exec_rxByte_sixth {v : Octet} {s : State} (hr : s.rxState = .header) (ht : InTime s) (hi : s.rxIndex = 5) :
    exec (.rxByte v) s =
      .next (headerCrcPhase { activityPhase s with rxHcrc := hUpdate v s.rxHcrc, rxIndex := 6 }) := by
  rw [exec_rxByte_of_no_timeout (timeoutPhase_of_inTime ht), receiveByte_header (by simpa using hr),
    headerByte_sixth (by simpa using hi), activityPhase_rxHcrc]

/-- Settles O14: the octet runs HeaderCrc, whose five branches are the five clauses. -/
theorem headerCrcBranches : Obligations.HeaderCrcBranches := by
  intro s v hr ht hi s1 invalid
  have hx : exec (.rxByte v) s = .next (headerCrcPhase s1) := exec_rxByte_sixth hr ht hi
  have hinv : { postInvalid s1 with rxState := .idle } = invalid := postInvalid_toIdle s1
  refine ⟨fun h => ?_, fun h h1 h2 => ?_, fun h hd hl => ?_, fun h hd hl => ?_, fun h hd hl h0 => ?_⟩
  · rw [hx, headerCrcPhase_badCrc h, hinv]
  · rw [hx, headerCrcPhase_elsewhere h h1 h2]
  · rw [hx, headerCrcPhase_tooLong h hd hl, hinv]
  · rw [hx, headerCrcPhase_empty h hd hl, postValid_toIdle]
    rfl
  · rw [hx, headerCrcPhase_payload h hd hl h0]
    rfl

/-! ## Data -/

/-- Before the second data-CRC octet the index and the checksum advance and nothing else happens. -/
theorem dataCount_before_last {v : Octet} {s : State} (hl : s.rxLen.toNat ≤ nMaxData)
    (hi : s.rxIndex.toNat ≤ s.rxLen.toNat) :
    dataCount v s = { s with rxDcrc := dUpdate v s.rxDcrc, rxIndex := s.rxIndex + 1 } := by
  have hlt : s.rxIndex.toNat < 0x3FF := by unfold nMaxData at hl; omega
  have hne : (satInc10 s.rxIndex).toNat ≠ s.rxLen.toNat + 2 := by rw [satInc10_toNat]; omega
  rw [← satInc10_of_lt hlt]
  exact if_neg hne

/-- The second data-CRC octet runs DataCrc (41_receive_fsm.md R111). -/
theorem dataCount_last {v : Octet} {s : State} (hl : s.rxLen.toNat ≤ nMaxData)
    (hi : s.rxIndex.toNat = s.rxLen.toNat + 1) :
    dataCount v s = dataCrcPhase { s with rxDcrc := dUpdate v s.rxDcrc, rxIndex := s.rxIndex + 1 } := by
  have hlt : s.rxIndex.toNat < 0x3FF := by unfold nMaxData at hl; omega
  have heq : (satInc10 s.rxIndex).toNat = s.rxLen.toNat + 2 := by unfold nMaxData at hl; rw [satInc10_toNat]; omega
  rw [← satInc10_of_lt hlt]
  exact if_pos heq

theorem dataCrcPhase_good {s : State} (h : s.rxDcrc = dGood) :
    dataCrcPhase s = { postValid s with rxState := .idle } := by
  rw [dataCrcPhase, if_pos h]

theorem dataCrcPhase_bad {s : State} (h : s.rxDcrc ≠ dGood) :
    dataCrcPhase s = { postInvalid s with rxState := .idle } := by
  rw [dataCrcPhase, if_neg h]

theorem dataByte_store {v : Octet} {s : State} (hl : s.rxLen.toNat ≤ nMaxData)
    (hi : s.rxIndex.toNat < s.rxLen.toNat) :
    dataByte v s = .next (dataCount v { s with rxBuf := s.rxBuf.write s.rxIndex.toNat v }) := by
  rw [dataByte, if_pos hi, if_pos (Nat.lt_of_lt_of_le hi hl)]

theorem dataByte_no_store {v : Octet} {s : State} (hi : s.rxLen.toNat ≤ s.rxIndex.toNat) :
    dataByte v s = .next (dataCount v s) := by
  rw [dataByte, if_neg (Nat.not_lt.2 hi)]

section
variable {v : Octet} {s : State} (hl : s.rxLen.toNat ≤ nMaxData)
include hl

theorem dataByte_payload (hi : s.rxIndex.toNat < s.rxLen.toNat) :
    dataByte v s =
      .next { s with
        rxDcrc := dUpdate v s.rxDcrc, rxIndex := s.rxIndex + 1, rxBuf := s.rxBuf.write s.rxIndex.toNat v } :=
  (dataByte_store hl hi).trans (congrArg _ (dataCount_before_last hl (Nat.le_of_lt hi)))

theorem dataByte_firstCrc (hi : s.rxIndex.toNat = s.rxLen.toNat) :
    dataByte v s = .next { s with rxDcrc := dUpdate v s.rxDcrc, rxIndex := s.rxIndex + 1 } :=
  (dataByte_no_store hi.ge).trans (congrArg _ (dataCount_before_last hl hi.le))

theorem dataByte_secondCrc (hi : s.rxIndex.toNat = s.rxLen.toNat + 1) :
    dataByte v s = .next (dataCrcPhase { s with rxDcrc := dUpdate v s.rxDcrc, rxIndex := s.rxIndex + 1 }) :=
  (dataByte_no_store (by omega)).trans (congrArg _ (dataCount_last hl hi))

end

theorem exec_rxByte_data {v : Octet} {s : State} (hr : s.rxState = .data) (ht : InTime s) :
    exec (.rxByte v) s = dataByte v (activityPhase s) :=
  (exec_rxByte_of_no_timeout (timeoutPhase_of_inTime ht)).trans (receiveByte_data hr)

/-- Settles O16: the index against the length says whether the octet is payload, the first data-CRC octet or the
second. -/
theorem dataOctetFolded : Obligations.DataOctetFolded := by
  intro s v hr ht hwf hl _ s1
  have hx : exec (.rxByte v) s = dataByte v (activityPhase s) := exec_rxByte_data hr ht
  have hlast (hi : s.rxIndex.toNat = s.rxLen.toNat + 1) : exec (.rxByte v) s = .next (dataCrcPhase s1) :=
    hx.trans (dataByte_secondCrc (s := activityPhase s) hl hi)
  refine ⟨fun hi => ?_, fun hi => hx.trans (dataByte_firstCrc (s := activityPhase s) hl hi), fun hi hc => ?_,
    fun hi hc => ?_⟩
  · exact ⟨_, hx.trans (dataByte_payload (s := activityPhase s) hl hi), Memory.read_write_same hwf,
      fun a ha => Memory.read_write_other _ ha⟩
  · rw [hlast hi, dataCrcPhase_good hc, postValid_toIdle]
    rfl
  · rw [hlast hi, dataCrcPhase_bad hc, postInvalid_toIdle]
    rfl

/-! ## Activity and completion -/

/-- Within the bounds a data octet completes: a payload index is below 501. -/
theorem dataByte_completes {v : Octet} {s : State} (hl : s.rxLen.toNat ≤ nMaxData) : ∃ t, dataByte v s = .next t := by
  by_cases hi : s.rxIndex.toNat < s.rxLen.toNat
  · exact ⟨_, dataByte_store hl hi⟩
  · exact ⟨_, dataByte_no_store (Nat.not_lt.1 hi)⟩

theorem receiveByte_completes {v : Octet} {s : State} (hl : s.rxState = .data → s.rxLen.toNat ≤ nMaxData) :
    ∃ t, receiveByte v s = .next t := by
  cases hr : s.rxState with
  | idle => exact ⟨_, receiveByte_idle hr⟩
  | preamble => exact ⟨_, receiveByte_preamble hr⟩
  | header => exact ⟨_, receiveByte_header hr⟩
  | data => rw [receiveByte_data hr]; exact dataByte_completes (hl hr)

/-- The receiver's branches leave alone what only the activity phase writes. -/
theorem receiveByte_activity {v : Octet} {s t : State} (h : receiveByte v s = .next t) :
    t.silence = s.silence ∧ t.eventCount = s.eventCount := by
  cases hr : s.rxState with
  | idle => rw [receiveByte_idle hr] at h; cases h; simp
  | preamble => rw [receiveByte_preamble hr] at h; cases h; simp
  | header => rw [receiveByte_header hr] at h; cases h; simp
  | data =>
    rw [receiveByte_data hr] at h
    obtain ⟨-, -, rfl⟩ | ⟨-, rfl⟩ := dataByte_next h <;> simp

/-- Settles O18: the timeout phase keeps the bounds, the activity phase clears and counts, and no later branch
writes either register. -/
theorem receiveActivity : Obligations.ReceiveActivity := by
  intro s hb
  refine ⟨fun v => ?_, ⟨_, rfl, by simp, by simp⟩, ⟨_, rfl, by simp, by simp⟩⟩
  have hdata : (activityPhase (timeoutPhase s)).rxState = .data →
      (activityPhase (timeoutPhase s)).rxLen.toNat ≤ nMaxData := by
    intro h
    simpa using hb.rxLen (not_not.1 fun hn => timeoutPhase_rxState_ne_data hn h)
  obtain ⟨t, ht⟩ := receiveByte_completes (v := v) hdata
  obtain ⟨hsil, hcount⟩ := receiveByte_activity ht
  exact ⟨t, ht, by simpa using hsil, by simpa using hcount⟩

/-! ## What receive commands never write -/

/-- Posting sets no bit of STATUS but RX_OVERRUN. -/
@[simp] theorem statusAfterPost_getElem_one (s : State) : (statusAfterPost s)[1] = s.status[1] := by
  unfold statusAfterPost
  split
  · simp
  · rfl

@[simp] theorem timeoutPhase_cmdIgnored (s : State) : (timeoutPhase s).cmdIgnored = s.cmdIgnored := by
  obtain ⟨-, e⟩ | ⟨-, -, e⟩ | ⟨-, -, e⟩ := timeoutPhase_cases s <;> simp [e, State.cmdIgnored]

@[simp] theorem activityPhase_cmdIgnored (s : State) : (activityPhase s).cmdIgnored = s.cmdIgnored := rfl

@[simp] theorem idleByte_cmdIgnored (v : Octet) (s : State) : (idleByte v s).cmdIgnored = s.cmdIgnored := by
  simp [State.cmdIgnored]

@[simp] theorem preambleByte_cmdIgnored (v : Octet) (s : State) : (preambleByte v s).cmdIgnored = s.cmdIgnored := by
  simp [State.cmdIgnored]

@[simp] theorem receiveError_cmdIgnored (s : State) : (receiveError s).cmdIgnored = s.cmdIgnored := by
  unfold receiveError
  split <;> simp [State.cmdIgnored]

@[simp] theorem headerCrcPhase_cmdIgnored (s : State) : (headerCrcPhase s).cmdIgnored = s.cmdIgnored := by
  unfold headerCrcPhase
  (repeat' split) <;> simp [State.cmdIgnored]

@[simp] theorem headerByte_cmdIgnored (v : Octet) (s : State) : (headerByte v s).cmdIgnored = s.cmdIgnored := by
  unfold headerByte
  dsimp only
  split
  · rw [headerCrcPhase_cmdIgnored]; simp [State.cmdIgnored]
  · simp [State.cmdIgnored]

@[simp] theorem dataCrcPhase_cmdIgnored (s : State) : (dataCrcPhase s).cmdIgnored = s.cmdIgnored := by
  unfold dataCrcPhase
  split <;> simp [State.cmdIgnored]

@[simp] theorem dataCount_cmdIgnored (v : Octet) (s : State) : (dataCount v s).cmdIgnored = s.cmdIgnored := by
  unfold dataCount
  dsimp only
  split
  · rw [dataCrcPhase_cmdIgnored]; rfl
  · rfl

/-- The registers that are neither the receiver's nor the token machine's, with the model's own two streams, are the
same in both states (41_receive_fsm.md R118). -/
structure HostRegsKept (s t : State) : Prop where
  replyTimer : t.replyTimer = s.replyTimer
  txqValid : t.txqValid = s.txqValid
  txqType : t.txqType = s.txqType
  txqDest : t.txqDest = s.txqDest
  txqLen : t.txqLen = s.txqLen
  txqData : t.txqData = s.txqData
  rplValid : t.rplValid = s.rplValid
  rplType : t.rplType = s.rplType
  rplLen : t.rplLen = s.rplLen
  rplData : t.rplData = s.rplData
  cmdIgnored : t.cmdIgnored = s.cmdIgnored
  inputs : t.inputs = s.inputs
  events : t.events = s.events

/-- An octet, in whatever receive state it finds, leaves the host's registers alone. -/
theorem receiveByte_keepsHostRegs {v : Octet} {s t : State} (h : receiveByte v s = .next t) : HostRegsKept s t := by
  cases hr : s.rxState with
  | idle => rw [receiveByte_idle hr] at h; cases h; constructor <;> simp
  | preamble => rw [receiveByte_preamble hr] at h; cases h; constructor <;> simp
  | header => rw [receiveByte_header hr] at h; cases h; constructor <;> simp
  | data =>
    rw [receiveByte_data hr] at h
    obtain ⟨-, -, rfl⟩ | ⟨-, rfl⟩ := dataByte_next h
    · constructor <;> simp
      rfl
    · constructor <;> simp

theorem execRxNone_keepsHostRegs {s t : State} (h : execRxNone s = .next t) : HostRegsKept s t := by
  cases h
  constructor <;> simp

theorem execRxByte_keepsHostRegs {v : Octet} {s t : State} (h : execRxByte v s = .next t) : HostRegsKept s t := by
  have k := receiveByte_keepsHostRegs h
  constructor <;> simp [k.replyTimer, k.txqValid, k.txqType, k.txqDest, k.txqLen, k.txqData, k.rplValid, k.rplType,
    k.rplLen, k.rplData, k.cmdIgnored, k.inputs, k.events]

theorem execRxError_keepsHostRegs {s t : State} (h : execRxError s = .next t) : HostRegsKept s t := by
  cases h
  constructor <;> simp

/-- The receiver's own registers that RX_NONE and RX_ERROR leave alone: the header fields, the index, the accumulators,
the buffer and the result latch (41_receive_fsm.md R96, R98). -/
structure FrameRegsKept (s t : State) : Prop where
  rxIndex : t.rxIndex = s.rxIndex
  rxHcrc : t.rxHcrc = s.rxHcrc
  rxDcrc : t.rxDcrc = s.rxDcrc
  rxType : t.rxType = s.rxType
  rxDest : t.rxDest = s.rxDest
  rxSrc : t.rxSrc = s.rxSrc
  rxLen : t.rxLen = s.rxLen
  rxBuf : t.rxBuf = s.rxBuf
  frType : t.frType = s.frType
  frDest : t.frDest = s.frDest
  frSrc : t.frSrc = s.frSrc
  frLen : t.frLen = s.frLen

theorem execRxNone_keepsFrameRegs {s t : State} (h : execRxNone s = .next t) : FrameRegsKept s t := by
  cases h
  constructor <;> simp

theorem execRxError_keepsFrameRegs {s t : State} (h : execRxError s = .next t) : FrameRegsKept s t := by
  cases h
  constructor <;> simp

/-- Only an octet in Data writes the buffer. -/
theorem receiveByte_rxBuf {v : Octet} {s t : State} (hr : s.rxState ≠ .data) (h : receiveByte v s = .next t) :
    t.rxBuf = s.rxBuf := by
  cases hs : s.rxState with
  | idle => rw [receiveByte_idle hs] at h; cases h; simp
  | preamble => rw [receiveByte_preamble hs] at h; cases h; simp
  | header => rw [receiveByte_header hs] at h; cases h; simp
  | data => exact absurd hs hr

theorem execRxByte_rxBuf {v : Octet} {s t : State} (hr : s.rxState ≠ .data) (h : execRxByte v s = .next t) :
    t.rxBuf = s.rxBuf := by
  have hr' : (activityPhase (timeoutPhase s)).rxState ≠ .data := timeoutPhase_rxState_ne_data hr
  simpa using receiveByte_rxBuf hr' h

/-- The receive commands are three. -/
theorem rxSignalOf_isSome {i : Instr} (h : (rxSignalOf i).isSome = true) :
    i = .rxNone ∨ (∃ v, i = .rxByte v) ∨ i = .rxError := by
  cases i with
  | rxNone => exact .inl rfl
  | rxByte v => exact .inr (.inl ⟨v, rfl⟩)
  | rxError => exact .inr (.inr rfl)
  | _ => simp [rxSignalOf] at h

/-- Settles O19: the token machine's registers and the host's by one lemma per command each; the receiver's own by
which command it is. -/
theorem receiveFrame : Obligations.ReceiveFrame := by
  intro i s t hi h
  have hkept : TokenRegsKept s t ∧ HostRegsKept s t ∧ (i = .rxNone ∨ i = .rxError → FrameRegsKept s t) ∧
      (i = .rxNone → t.silence = s.silence ∧ t.eventCount = s.eventCount) ∧
      (s.rxState ≠ .data → t.rxBuf = s.rxBuf) := by
    obtain rfl | ⟨v, rfl⟩ | rfl := rxSignalOf_isSome hi
    · have k := execRxNone_keepsFrameRegs h
      refine ⟨execRxNone_keepsTokenRegs h, execRxNone_keepsHostRegs h, fun _ => k, fun _ => ?_, fun _ => k.rxBuf⟩
      cases h
      simp
    · exact ⟨execRxByte_keepsTokenRegs h, execRxByte_keepsHostRegs h, by simp, by simp, fun hr => execRxByte_rxBuf hr h⟩
    · have k := execRxError_keepsFrameRegs h
      exact ⟨execRxError_keepsTokenRegs h, execRxError_keepsHostRegs h, fun _ => k, by simp, fun _ => k.rxBuf⟩
  obtain ⟨kt, kh, kf, ka, kb⟩ := hkept
  refine ⟨kt.cfg, kt.tkState, kt.ns, kt.ps, kt.soleMaster, kt.tokenCount, kt.frameCount, kt.retryCount, kt.reqSrc,
    kt.reqType, kt.waitType, kh.replyTimer, kh.txqValid, kh.txqType, kh.txqDest, kh.txqLen, kh.txqData, kh.rplValid,
    kh.rplType, kh.rplLen, kh.rplData, kh.cmdIgnored, kh.inputs, kh.events, fun hne => ?_, ka,
    fun hr a => congrArg (Memory.read · a) (kb hr)⟩
  have k := kf hne
  exact ⟨k.rxIndex, k.rxHcrc, k.rxDcrc, k.rxType, k.rxDest, k.rxSrc, k.rxLen, fun a => by rw [k.rxBuf], k.frType,
    k.frDest, k.frSrc, k.frLen⟩

end Sys2Proof.Machine
end

section
/-! PROOFS. The token machine's family (42_token_fsm.md): the branches of each of its states, what it does with a taken
frame, and that no instruction enters Initialize or an unused state. -/

namespace Sys2Proof.Machine
open Sys2Proof.Statements

/-! ## The comparators and the type classes, as the statements write them -/

theorem tokenLost_iff {s : State} : tokenLost s = true ↔ s.cfg.tNoToken ≤ s.silence := decide_eq_true_iff

theorem replyTimedOut_iff {s : State} : replyTimedOut s = true ↔ s.cfg.tReplyTimeout ≤ s.silence := decide_eq_true_iff

theorem usageTimedOut_iff {s : State} : usageTimedOut s = true ↔ s.cfg.tUsageTimeout ≤ s.silence := decide_eq_true_iff

theorem activitySeen_iff {s : State} : activitySeen s = true ↔ s.cfg.nMinOctets < s.eventCount := decide_eq_true_iff

theorem usageTimedOut_eq_false_iff {s : State} : usageTimedOut s = false ↔ s.silence < s.cfg.tUsageTimeout :=
  decide_eq_false_iff_not.trans BitVec.not_le

theorem activitySeen_eq_false_iff {s : State} : activitySeen s = false ↔ s.eventCount ≤ s.cfg.nMinOctets :=
  decide_eq_false_iff_not.trans BitVec.not_lt

theorem slotArrived_iff {s : State} : slotArrived s = true ↔ slotThreshold s.cfg ≤ s.silence.toNat := decide_eq_true_iff

theorem replyDelayOver_iff {s : State} : replyDelayOver s = true ↔ s.cfg.tReplyDelay ≤ s.replyTimer :=
  decide_eq_true_iff

theorem replyDelayOver_eq_false_iff {s : State} : replyDelayOver s = false ↔ s.replyTimer < s.cfg.tReplyDelay :=
  decide_eq_false_iff_not.trans BitVec.not_le

theorem pollTimedOut_iff {s : State} : pollTimedOut s = true ↔ s.cfg.tUsageTimeout ≤ s.silence ∨ s.rif = true := by
  rw [pollTimedOut, Bool.or_eq_true, usageTimedOut_iff]

/-- The statements' `next` is the model's (42_token_fsm.md R129). -/
theorem nextOf_eq (s : State) (x : Octet) : nextOf s x = nextStation s.cfg x := rfl

theorem isDelivered_iff {t : Octet} : isDelivered t = true ↔ t = 4 ∨ t = 6 ∨ 128 ≤ t.toNat := by
  simp [isDelivered, isProprietary, BitVec.le_def, or_assoc]

/-- In WaitForReply, where `wait_type` is 3 or 5, exactly one type is the expected one (30_encoding.md R70). -/
theorem expectedReply_eq_some_iff {w t : Octet} (h : w = 3 ∨ w = 5) :
    expectedReply w = some t ↔ t = if w = 3 then 4 else 6 := by
  obtain rfl | rfl := h
  · exact Option.some_inj.trans eq_comm
  · exact Option.some_inj.trans eq_comm

/-! ## MASTER_STEP by state (42_token_fsm.md R126) -/

section
variable {s : State}

theorem exec_masterStep_initial (h : s.tkState = .initial) : exec .masterStep s = .next (initializeStep s) := by
  rw [exec, execMasterStep, h]

theorem exec_masterStep_idle (h : s.tkState = .idle) : exec .masterStep s = idleStep s := by
  rw [exec, execMasterStep, h]

theorem exec_masterStep_waitForReply (h : s.tkState = .waitForReply) : exec .masterStep s = waitStep s := by
  rw [exec, execMasterStep, h]

theorem exec_masterStep_doneWithToken (h : s.tkState = .doneWithToken) : exec .masterStep s = .next (doneStep s) := by
  rw [exec, execMasterStep, h]

theorem exec_masterStep_passToken (h : s.tkState = .passToken) : exec .masterStep s = .next (passStep s) := by
  rw [exec, execMasterStep, h]

theorem exec_masterStep_noToken (h : s.tkState = .noToken) : exec .masterStep s = .next (noTokenStep s) := by
  rw [exec, execMasterStep, h]

theorem exec_masterStep_pollForMaster (h : s.tkState = .pollForMaster) : exec .masterStep s = pollStep s := by
  rw [exec, execMasterStep, h]

theorem exec_masterStep_answerDataRequest (h : s.tkState = .answerDataRequest) :
    exec .masterStep s = answerStep s := by
  rw [exec, execMasterStep, h]

theorem exec_masterStep_unused {k : Fin 7} (h : s.tkState = .unused k) : exec .masterStep s = .next s := by
  rw [exec, execMasterStep, h]

theorem exec_masterStep_of_takesFrame (h : takesFrame s = true) :
    exec .masterStep s = frameAction s.frType s :=
  execMasterStep_of_takesFrame h

theorem exec_masterStep_of_idleTakes (h : IdleTakes s) : exec .masterStep s = idleFrame s.frType s := by
  rw [exec_masterStep_of_takesFrame ((takesFrame_iff s).2 (.inl h)), frameAction, h.1]

theorem exec_masterStep_of_waitTakes (h : WaitTakes s) : exec .masterStep s = waitFrame s.frType s := by
  rw [exec_masterStep_of_takesFrame ((takesFrame_iff s).2 (.inr (.inl h))), frameAction, h.1]

theorem exec_masterStep_of_pollTakes (h : PollTakes s) : exec .masterStep s = pollFrame s.frType s := by
  rw [exec_masterStep_of_takesFrame ((takesFrame_iff s).2 (.inr (.inr h))), frameAction, h.1]

end

/-! ## A frame taken in Idle -/

section
variable {s : State} {t : Octet}

theorem idleFrame_directed (h : s.frDest = s.cfg.ts) : idleFrame t s = idleDirected t { s with rvf := false } :=
  if_pos h

theorem idleFrame_broadcast (h : s.frDest = broadcast) (hts : s.cfg.ts ≠ broadcast) :
    idleFrame t s = idleBroadcast t { s with rvf := false } := by
  rw [idleFrame, if_neg (h ▸ hts.symm), if_pos h]

theorem idleBroadcast_delivered (h : isDelivered t = true) : idleBroadcast t s = indicate t s := if_pos h

theorem idleBroadcast_discarded (h : ¬isDelivered t = true) : idleBroadcast t s = .next s := if_neg h

theorem idleDirected_token :
    idleDirected 0 s = .next { s with frameCount := 0, soleMaster := false, tkState := .useToken } := rfl

theorem idleDirected_poll : idleDirected 1 s = .next (send 2 s.frSrc [] s) := rfl

theorem idleDirected_testRequest :
    idleDirected 3 s =
      .next { s with replyTimer := 0, reqSrc := s.frSrc, reqType := 3, tkState := .answerDataRequest } := rfl

theorem idleDirected_dataRequest :
    idleDirected 5 s =
      indicate 5 { s with replyTimer := 0, reqSrc := s.frSrc, reqType := 5, tkState := .answerDataRequest } := rfl

/-- The types Idle answers only where the frame is addressed to this station: Token, Poll-For-Master and the two
requests (42_token_fsm.md R135 to R137). -/
def AnsweredInIdle (t : Octet) : Prop := t = 0 ∨ t = 1 ∨ t = 3 ∨ t = 5

/-- Every other directed frame is treated as a broadcast one is (42_token_fsm.md R138 to R140). -/
theorem idleDirected_other (h : ¬AnsweredInIdle t) : idleDirected t s = idleBroadcast t s := by
  obtain ⟨h0, h1, h3, h5⟩ : t ≠ 0 ∧ t ≠ 1 ∧ t ≠ 3 ∧ t ≠ 5 := by simpa only [AnsweredInIdle, not_or] using h
  rw [idleDirected, if_neg h0, if_neg h1, if_neg h3, if_neg h5, idleBroadcast]

theorem not_answeredInIdle_of_isDelivered (h : isDelivered t = true) : ¬AnsweredInIdle t := by
  rintro (rfl | rfl | rfl | rfl) <;> exact absurd h (by decide)

theorem idleDirected_delivered (h : isDelivered t = true) : idleDirected t s = indicate t s :=
  (idleDirected_other (not_answeredInIdle_of_isDelivered h)).trans (idleBroadcast_delivered h)

theorem idleDirected_discarded (ha : ¬AnsweredInIdle t) (hd : ¬isDelivered t = true) : idleDirected t s = .next s :=
  (idleDirected_other ha).trans (idleBroadcast_discarded hd)

theorem exec_masterStep_of_directed (h : IdleTakes s) (hd : s.frDest = s.cfg.ts) :
    exec .masterStep s = idleDirected s.frType { s with rvf := false } :=
  (exec_masterStep_of_idleTakes h).trans (idleFrame_directed hd)

theorem exec_masterStep_of_broadcast (h : IdleTakes s) (hd : s.frDest = broadcast) (hts : s.cfg.ts ≠ broadcast) :
    exec .masterStep s = idleBroadcast s.frType { s with rvf := false } :=
  (exec_masterStep_of_idleTakes h).trans (idleFrame_broadcast hd hts)

end

/-- Settles O35: the Token's branch of the dispatch on a directed frame. -/
theorem directedTokenMakesHolder : Obligations.DirectedTokenMakesHolder := by
  intro s h hd ht
  rw [exec_masterStep_of_directed h hd, ht, idleDirected_token]

/-- Settles O36: the Poll-For-Master's branch, whose Send also clears `silence`. -/
theorem directedPollAnswered : Obligations.DirectedPollAnswered := by
  intro s h hd ht
  rw [exec_masterStep_of_directed h hd, ht, idleDirected_poll]
  rfl

/-- Settles O37: the two requests' branches; the Indicate of type 5 reads within the buffer. -/
theorem directedRequestOpensAnswer : Obligations.DirectedRequestOpensAnswer := by
  intro s h hd hl
  refine ⟨fun ht => ?_, fun ht => ?_⟩
  · rw [exec_masterStep_of_directed h hd, ht, idleDirected_testRequest]
  · rw [exec_masterStep_of_directed h hd, ht, idleDirected_dataRequest]
    exact indicate_of_le hl

/-- Settles O38: a delivered type is none that Idle answers. -/
theorem directedFrameDelivered : Obligations.DirectedFrameDelivered := by
  intro s h hd hl ht
  rw [exec_masterStep_of_directed h hd, idleDirected_delivered (isDelivered_iff.2 ht)]
  exact indicate_of_le hl

/-- Settles O39: the named types are neither answered nor delivered. -/
theorem directedFrameDiscarded : Obligations.DirectedFrameDiscarded := by
  intro s h hd ht
  have hans : ¬AnsweredInIdle s.frType := by unfold AnsweredInIdle; bv_omega
  have hdel : ¬isDelivered s.frType = true := by rw [isDelivered_iff]; bv_omega
  rw [exec_masterStep_of_directed h hd, idleDirected_discarded hans hdel]

/-- Settles O40: a broadcast frame is delivered or discarded by its type alone. -/
theorem broadcastFrameInIdle : Obligations.BroadcastFrameInIdle := by
  intro s h hd hts hl
  have hx := exec_masterStep_of_broadcast h hd hts
  refine ⟨fun ht => ?_, fun ht => ?_⟩
  · rw [hx, idleBroadcast_delivered (isDelivered_iff.2 ht)]
    exact indicate_of_le hl
  · rw [hx, idleBroadcast_discarded (isDelivered_iff.not.2 ht)]

/-! ## A frame taken in WaitForReply or PollForMaster -/

/-- Settles O41: by R176 (f) one type is the expected one, and it is not Reply-Postponed. -/
theorem frameWhileWaiting : Obligations.FrameWhileWaiting := by
  intro s h hw hl expected
  have hx := exec_masterStep_of_waitTakes h
  have he {t : Octet} : expectedReply s.waitType = some t ↔ t = expected := expectedReply_eq_some_iff hw
  have h7 : (7 : Octet) ≠ expected := by obtain hw | hw := hw <;> simp [expected, hw]
  refine ⟨fun ⟨hd, ht⟩ => ?_, fun ⟨hd, ht⟩ => ?_, fun hn => ?_⟩
  · rw [hx, waitFrame, if_pos ⟨hd, he.2 ht⟩]
    exact indicate_of_le hl
  · rw [hx, waitFrame, if_neg fun hc => h7 (ht.symm.trans (he.1 hc.2)), if_pos ⟨hd, ht⟩]
  · rw [hx, waitFrame, if_neg fun hc => hn ⟨hc.1, .inl (he.1 hc.2)⟩, if_neg fun hc => hn ⟨hc.1, .inr hc.2⟩]

/-- Settles O42: the reply to the poll passes the Token on, whose Send clears `silence`; any other frame gives up. -/
theorem frameWhilePolling : Obligations.FrameWhilePolling := by
  intro s h
  have hx := exec_masterStep_of_pollTakes h
  refine ⟨fun hr => ?_, fun hn => ?_⟩
  · rw [hx, pollFrame, if_pos hr]
    rfl
  · rw [hx, pollFrame, if_neg hn]

/-! ## Idle and WaitForReply where no frame is taken -/

/-- Settles O31: the three branches in the order of R132, R133 and R141. -/
theorem idleWithoutFrame : Obligations.IdleWithoutFrame := by
  intro s hs
  have hx := exec_masterStep_idle hs
  have hin (h : s.silence < s.cfg.tNoToken) : ¬tokenLost s = true := tokenLost_iff.not.2 (BitVec.not_le.2 h)
  refine ⟨fun h => ?_, fun h hi => ?_, fun h hi hv => ?_⟩
  · rw [hx, idleStep, if_pos (tokenLost_iff.2 h)]
  · rw [hx, idleStep, if_neg (hin h), if_pos hi]
  · rw [hx, idleStep, if_neg (hin h), if_neg (by simp [hi]), if_neg (by simp [hv])]

/-- Settles O44: the branches in the order of R145, R146 and R150. -/
theorem waitForReplyWithoutFrame : Obligations.WaitForReplyWithoutFrame := by
  intro s hs
  have hx := exec_masterStep_waitForReply hs
  have hin (h : s.silence < s.cfg.tReplyTimeout) : ¬replyTimedOut s = true :=
    replyTimedOut_iff.not.2 (BitVec.not_le.2 h)
  refine ⟨fun h => ?_, fun h hi => ?_, fun h hi hv => ?_⟩
  · rw [hx, waitStep, if_pos (replyTimedOut_iff.2 h)]
  · rw [hx, waitStep, if_neg (hin h), if_pos hi]
  · rw [hx, waitStep, if_neg (hin h), if_neg (by simp [hi]), if_neg (by simp [hv])]

/-! ## The states that hold or seek the token -/

/-- Settles O45: the case split of R157, each clause falling through the branches before its own. -/
theorem doneWithTokenBranches : Obligations.DoneWithTokenBranches := by
  intro s hs
  simp only [nextOf_eq]
  have hx := exec_masterStep_doneWithToken hs
  have hused (hf : s.cfg.nMaxInfoFrames ≤ s.frameCount) : ¬s.frameCount < s.cfg.nMaxInfoFrames := BitVec.not_lt.2 hf
  have hdue {p : Prop} (ht : s.cfg.nPoll ≤ s.tokenCount) : ¬(s.tokenCount < s.cfg.nPoll ∧ p) :=
    fun h => BitVec.not_lt.2 ht h.1
  refine ⟨fun hf => ?_, fun hf ht hm => ?_, fun hf hp => ?_, fun hf ht hn hps => ?_, fun hf ht hn hps hm => ?_,
    fun hf ht hn hps hm => ?_⟩
  · rw [hx, doneStep, if_pos hf]
  · rw [hx, doneStep, if_neg (hused hf), if_pos ⟨ht, hm⟩]
  · have hcycle : ¬(s.tokenCount < s.cfg.nPoll ∧ s.soleMaster = true) := by
      obtain ⟨-, hm⟩ | ⟨ht, -⟩ := hp
      · simp [hm]
      · exact hdue ht
    rw [hx, doneStep, if_neg (hused hf), if_neg hcycle, if_pos (hp.imp_right And.right)]
    rfl
  · rw [hx, doneStep, if_neg (hused hf), if_neg (hdue ht), if_neg (not_or_intro (hdue ht) hn), if_pos ⟨ht, hps⟩]
    rfl
  · rw [hx, doneStep, if_neg (hused hf), if_neg (hdue ht), if_neg (not_or_intro (hdue ht) hn), if_neg (·.2 hps),
      if_pos hm]
    rfl
  · rw [hx, doneStep, if_neg (hused hf), if_neg (hdue ht), if_neg (not_or_intro (hdue ht) hn), if_neg (·.2 hps),
      if_neg (by simp [hm])]
    rfl

/-- Settles O46: below the usage timeout the octets heard decide, at or above it the retries left. -/
theorem passTokenBranches : Obligations.PassTokenBranches := by
  intro s hs
  have hx := exec_masterStep_passToken hs
  refine ⟨fun hu ha => ?_, fun hu hr => ?_, fun hu hr => ?_, fun hu ha => ?_⟩
  · rw [hx, passStep, usageTimedOut_eq_false_iff.2 hu, activitySeen_iff.2 ha]
    rfl
  · rw [hx, passStep, usageTimedOut_iff.2 hu, if_pos hr]
    rfl
  · rw [hx, passStep, usageTimedOut_iff.2 hu, if_neg (BitVec.not_lt.2 hr)]
    rfl
  · rw [hx, passStep, usageTimedOut_eq_false_iff.2 hu, activitySeen_eq_false_iff.2 ha]
    rfl

/-- Settles O47: the octets heard decide first, then whether this station's slot has arrived. -/
theorem noTokenBranches : Obligations.NoTokenBranches := by
  intro s hs slot
  have hx := exec_masterStep_noToken hs
  refine ⟨fun ha => ?_, fun ha hslot => ?_, fun ha hslot => ?_⟩
  · rw [hx, noTokenStep, if_pos (activitySeen_iff.2 ha)]
  · rw [hx, noTokenStep, activitySeen_eq_false_iff.2 ha, if_pos (slotArrived_iff.2 hslot)]
    rfl
  · rw [hx, noTokenStep, activitySeen_eq_false_iff.2 ha, if_neg (slotArrived_iff.not.2 (Nat.not_le.2 hslot))]
    rfl

/-- Settles O48: without a timeout nothing happens; with one the branches come in the order of R167 to R170. -/
theorem pollForMasterUnanswered : Obligations.PollForMasterUnanswered := by
  intro s hs hv timeout
  simp only [nextOf_eq]
  have hx : exec .masterStep s = .next (pollUnanswered s) := by
    rw [exec_masterStep_pollForMaster hs, pollStep, if_neg (by simp [hv])]
  have hto (h : timeout) : pollTimedOut s = true := pollTimedOut_iff.2 h
  refine ⟨fun h hm => ?_, fun h hm hns => ?_, fun h hm hns hps => ?_, fun h hm hns hps => ?_, fun h => ?_⟩
  · rw [hx, pollUnanswered, hto h, hm]
    rfl
  · rw [hx, pollUnanswered, hto h, hm, if_pos hns]
    rfl
  · rw [hx, pollUnanswered, hto h, hm, if_neg (not_not.2 hns), if_pos hps]
    rfl
  · rw [hx, pollUnanswered, hto h, hm, if_neg (not_not.2 hns), if_neg (not_not.2 hps)]
    rfl
  · rw [hx, pollUnanswered, if_pos (by simp [pollTimedOut_iff.not.2 h])]

/-! ## AnswerDataRequest -/

/-- Settles O49: inside the delay window `req_type` and the reply slot decide; the lengths read are within bounds. -/
theorem answerDataRequestBranches : Obligations.AnswerDataRequestBranches := by
  intro s hs hq hb
  have hx := exec_masterStep_answerDataRequest hs
  refine ⟨fun hq ht => ?_, fun hq hr ht => ?_, fun ht => ?_, fun hq hr ht => ?_⟩
  · rw [hx, answerStep, if_pos ⟨hq, replyDelayOver_eq_false_iff.2 ht⟩, withOctets_of_le hb.frLen]
    rfl
  · rw [hx, answerStep, if_neg (by simp [hq]), if_pos ⟨hq, hr, replyDelayOver_eq_false_iff.2 ht⟩,
      withOctets_of_le hb.rplLen]
    rfl
  · rw [hx, answerStep, replyDelayOver_iff.2 ht, if_neg (by simp), if_neg (by simp), if_pos rfl]
    rfl
  · rw [hx, answerStep, replyDelayOver_eq_false_iff.2 ht, if_neg (by simp [hq]), if_neg (by simp [hr])]
    rfl

/-! ## The states no instruction enters -/

/-- Neither Initialize nor one of the unused values: a state the machine runs in. -/
def TkState.running : TkState → Bool
  | .initial | .unused _ => false
  | .idle | .useToken | .waitForReply | .doneWithToken | .passToken | .noToken | .pollForMaster
  | .answerDataRequest => true

section
variable {s t : State} {ty : Octet}

theorem indicate_running (hr : s.tkState.running = true) (h : indicate ty s = .next t) :
    t.tkState.running = true :=
  (indicate_keepsTokenRegs h).tkState ▸ hr

theorem useTokenStep_running (h : useTokenStep s = .next t) : t.tkState.running = true := by
  unfold useTokenStep at h
  split at h
  · cases h; rfl
  · obtain ⟨-, h⟩ := withOctets_next h
    split at h
    · cases h; rfl
    · cases h; rfl

theorem waitFrame_running (h : waitFrame ty s = .next t) : t.tkState.running = true := by
  unfold waitFrame at h
  split at h
  · exact indicate_running rfl h
  split at h
  · cases h; rfl
  · cases h; rfl

theorem pollFrame_running (h : pollFrame ty s = .next t) : t.tkState.running = true := by
  unfold pollFrame at h
  split at h
  · cases h; rfl
  · cases h; rfl

theorem doneStep_running : (doneStep s).tkState.running = true := by
  unfold doneStep
  (repeat' split) <;> rfl

section
variable (hr : s.tkState.running = true)
include hr

theorem idleBroadcast_running (h : idleBroadcast ty s = .next t) : t.tkState.running = true :=
  (idleBroadcast_keepsTokenRegs h).tkState ▸ hr

theorem idleDirected_running (h : idleDirected ty s = .next t) : t.tkState.running = true := by
  unfold idleDirected at h
  split at h
  · cases h; rfl
  split at h
  · cases h; exact hr
  split at h
  · cases h; rfl
  split at h
  · exact indicate_running rfl h
  · exact idleBroadcast_running hr h

theorem idleFrame_running (h : idleFrame ty s = .next t) : t.tkState.running = true := by
  unfold idleFrame at h
  split at h
  · exact idleDirected_running (s := { s with rvf := false }) hr h
  split at h
  · exact idleBroadcast_running (s := { s with rvf := false }) hr h
  · cases h; exact hr

theorem idleStep_running (h : idleStep s = .next t) : t.tkState.running = true := by
  unfold idleStep at h
  split at h
  · cases h; rfl
  split at h
  · cases h; exact hr
  split at h
  · exact idleFrame_running hr h
  · cases h; exact hr

theorem waitStep_running (h : waitStep s = .next t) : t.tkState.running = true := by
  unfold waitStep at h
  split at h
  · cases h; rfl
  split at h
  · cases h; rfl
  split at h
  · exact waitFrame_running h
  · cases h; exact hr

theorem passStep_running : (passStep s).tkState.running = true := by
  unfold passStep
  split
  · rfl
  split
  · split
    · exact hr
    · rfl
  · exact hr

theorem noTokenStep_running : (noTokenStep s).tkState.running = true := by
  unfold noTokenStep
  split
  · rfl
  split
  · rfl
  · exact hr

theorem pollUnanswered_running : (pollUnanswered s).tkState.running = true := by
  unfold pollUnanswered
  split
  · exact hr
  split
  · rfl
  split
  · rfl
  split
  · exact hr
  · rfl

theorem pollStep_running (h : pollStep s = .next t) : t.tkState.running = true := by
  unfold pollStep at h
  split at h
  · exact pollFrame_running h
  · cases h; exact pollUnanswered_running hr

theorem answerStep_running (h : answerStep s = .next t) : t.tkState.running = true := by
  unfold answerStep at h
  split at h
  · obtain ⟨-, h⟩ := withOctets_next h; cases h; rfl
  split at h
  · obtain ⟨-, h⟩ := withOctets_next h; cases h; rfl
  split at h
  · cases h; rfl
  · cases h; exact hr

end

end

/-- Initialize and the unused values are left alone or left: a MASTER_STEP enters none of them. -/
theorem execMasterStep_tkState {s t : State} (h : execMasterStep s = .next t) :
    t.tkState = s.tkState ∨ t.tkState.running = true := by
  unfold execMasterStep at h
  cases hs : s.tkState <;> simp only [hs] at h
  case initial => cases h; exact .inr rfl
  case idle => exact .inr (idleStep_running (hs ▸ rfl) h)
  case useToken => exact .inr (useTokenStep_running h)
  case waitForReply => exact .inr (waitStep_running (hs ▸ rfl) h)
  case doneWithToken => cases h; exact .inr doneStep_running
  case passToken => cases h; exact .inr (passStep_running (hs ▸ rfl))
  case noToken => cases h; exact .inr (noTokenStep_running (hs ▸ rfl))
  case pollForMaster => exact .inr (pollStep_running (hs ▸ rfl) h)
  case answerDataRequest => exact .inr (answerStep_running (hs ▸ rfl) h)
  case unused => cases h; exact .inl hs

/-- A taken frame is taken in a running state and leaves one. -/
theorem frameAction_running {s t : State} {ty : Octet} (hf : takesFrame s = true) (h : frameAction ty s = .next t) :
    t.tkState.running = true := by
  obtain ⟨hs, -⟩ | ⟨hs, -⟩ | ⟨hs, -⟩ := (takesFrame_iff s).1 hf <;> simp only [frameAction, hs] at h
  · exact idleFrame_running (hs ▸ rfl) h
  · exact waitFrame_running h
  · exact pollFrame_running h

/-- What an instruction does to `tk_state`: nothing, or it goes to one of the eight states the machine runs in. -/
theorem exec_tkState {i : Instr} {s t : State} (h : exec i s = .next t) :
    t.tkState = s.tkState ∨ t.tkState.running = true := by
  obtain k | ⟨-, hm⟩ | ⟨ty, -, hf, ha⟩ := exec_next_cases h
  · exact .inl k.tkState
  · exact execMasterStep_tkState hm
  · exact .inr (frameAction_running hf ha)

/-- A state the machine does not run in is found after an instruction only where it stood before. -/
theorem exec_tkState_eq_of_not_running {i : Instr} {s t : State} (h : exec i s = .next t)
    (ht : t.tkState.running = false) : s.tkState = t.tkState :=
  ((exec_tkState h).resolve_right (ht ▸ Bool.false_ne_true)).symm

/-- A step that takes a reset leaves Initialize. -/
theorem step_tkState_of_reset {s t : State} {cfg : Config} {rest : List Input} (hin : s.inputs = .reset cfg :: rest)
    (h : step s = .next t) : t.tkState = .initial := by
  rw [step_of_input hin, runInput, applyReset] at h
  split at h
  · cases h; rfl
  · cases h

/-- Settles O30: the assignments are MASTER_STEP's in Initialize, and no instruction enters a state not running. -/
theorem initializeAssigns : Obligations.InitializeAssigns :=
  ⟨fun _ hs => exec_masterStep_initial hs, fun _ _ _ h ht => (exec_tkState_eq_of_not_running h (ht ▸ rfl)).trans ht⟩

/-- Settles O50: no instruction enters a state not running, and reset leaves Initialize. -/
theorem unusedTokenStatesStay : Obligations.UnusedTokenStatesStay :=
  ⟨fun _ _ hs => exec_masterStep_unused hs, fun _ _ _ _ h ht => (exec_tkState_eq_of_not_running h (ht ▸ rfl)).trans ht,
    fun _ _ _ _ hin h => step_tkState_of_reset hin h⟩

end Sys2Proof.Machine
end

section
/-! PROOFS. The timers' family (43_timers.md): TICK's saturating increments, and what else writes `silence` and
`reply_timer`. -/

namespace Sys2Proof.Machine
open Sys2Proof.Statements

/-! ## TICK -/

/-- `sat_inc_16` with its saturation written out (00_scope.md R8). -/
theorem satInc16_eq_ofNat (r : Word16) : satInc16 r = BitVec.ofNat 16 (min (r.toNat + 1) 0xFFFF) := by
  rw [← satInc16_toNat, BitVec.ofNat_toNat, BitVec.setWidth_eq]

theorem exec_tick (s : State) :
    exec .tick s = .next { s with silence := satInc16 s.silence, replyTimer := satInc16 s.replyTimer } := rfl

/-- Settles O23: both increments are `sat_inc_16`, whose saturation is a minimum. -/
theorem tickAdvancesTimers : Obligations.TickAdvancesTimers := by
  intro s
  rw [exec_tick, satInc16_eq_ofNat, satInc16_eq_ofNat]

/-! ## Reset -/

/-- All that a step that takes a reset can do when it answers a next state (70_reset_and_hazards.md R236, R240). -/
theorem step_next_of_reset {s t : State} {cfg : Config} {rest : List Input} (hin : s.inputs = .reset cfg :: rest)
    (h : step s = .next t) :
    configLegal cfg = true ∧ t = { State.resetWith cfg with inputs := rest, events := s.events } := by
  rw [step_of_input hin, runInput, applyReset] at h
  split at h
  · cases h; exact ⟨‹_›, rfl⟩
  · cases h

/-! ## The two rules on the timers, for everything but TICK, octets and errors -/

/-- `silence` goes with the frames sent (43_timers.md R188): nothing is emitted or one frame is delivered, and `silence`
is kept; or one frame is sent, and `silence` is cleared. -/
def SilenceFollowsSend (s t : State) : Prop :=
  (t.silence = s.silence ∧ (t.events = s.events ∨ ∃ ty, t.events = indicated s ty)) ∨
    (t.silence = 0 ∧ ∃ ty d data, t.events = sent s ty d data)

/-- The token machine enters AnswerDataRequest between the two states. -/
def EntersAnswer (s t : State) : Prop := t.tkState = .answerDataRequest ∧ s.tkState ≠ .answerDataRequest

/-- `reply_timer` is cleared on the entry to AnswerDataRequest and kept otherwise (43_timers.md R189). -/
def ReplyTimerFollowsEntry (s t : State) : Prop :=
  (EntersAnswer s t → t.replyTimer = 0) ∧ (¬EntersAnswer s t → t.replyTimer = s.replyTimer)

/-- Both rules. They read a state through its registers only, so a state that differs in registers they do not read may
stand for another. -/
def TimersFollow (s t : State) : Prop := SilenceFollowsSend s t ∧ ReplyTimerFollowsEntry s t

section
variable {s t : State}

theorem ReplyTimerFollowsEntry.of_no_entry (hr : t.replyTimer = s.replyTimer)
    (hk : t.tkState = .answerDataRequest → s.tkState = .answerDataRequest) : ReplyTimerFollowsEntry s t :=
  ⟨fun ⟨ht, hs⟩ => absurd (hk ht) hs, fun _ => hr⟩

theorem ReplyTimerFollowsEntry.of_entry (hr : t.replyTimer = 0) (he : EntersAnswer s t) : ReplyTimerFollowsEntry s t :=
  ⟨fun _ => hr, fun hn => absurd he hn⟩

/-- Nothing emitted and AnswerDataRequest not entered. -/
theorem TimersFollow.quiet (hs : t.silence = s.silence) (he : t.events = s.events) (hr : t.replyTimer = s.replyTimer)
    (hk : t.tkState = .answerDataRequest → s.tkState = .answerDataRequest) : TimersFollow s t :=
  ⟨.inl ⟨hs, .inl he⟩, .of_no_entry hr hk⟩

/-- One frame sent and AnswerDataRequest not entered. -/
theorem TimersFollow.sends {ty d : Octet} {data : List Octet} (hs : t.silence = 0) (he : t.events = sent s ty d data)
    (hr : t.replyTimer = s.replyTimer) (hk : t.tkState = .answerDataRequest → s.tkState = .answerDataRequest) :
    TimersFollow s t :=
  ⟨.inr ⟨hs, _, _, _, he⟩, .of_no_entry hr hk⟩

/-- The latched frame delivered and AnswerDataRequest not entered. -/
theorem TimersFollow.delivers {ty : Octet} (hs : t.silence = s.silence) (he : t.events = indicated s ty)
    (hr : t.replyTimer = s.replyTimer) (hk : t.tkState = .answerDataRequest → s.tkState = .answerDataRequest) :
    TimersFollow s t :=
  ⟨.inl ⟨hs, .inr ⟨_, he⟩⟩, .of_no_entry hr hk⟩

theorem TimersFollow.refl (s : State) : TimersFollow s s := .quiet rfl rfl rfl id

/-- The rule on `silence` as the statement writes it: what is emitted where no frame is sent is no Send. -/
theorem SilenceFollowsSend.sent_or_kept (h : SilenceFollowsSend s t) :
    (t.silence = 0 ∧ ∃ ty d data octets, t.events = s.events ++ [.send ty d s.cfg.ts data octets]) ∨
      (t.silence = s.silence ∧ ∀ ty d src data octets, t.events ≠ s.events ++ [.send ty d src data octets]) := by
  obtain ⟨hs, he | ⟨ty, he⟩⟩ | ⟨hs, ty, d, data, he⟩ := h
  · exact .inr ⟨hs, by simp [he]⟩
  · exact .inr ⟨hs, by simp [he, indicated]⟩
  · exact .inl ⟨hs, ty, d, data, _, he⟩

end

/-! ## The token machine, state by state -/

section
variable {s t : State} {ty : Octet}

theorem idleBroadcast_timersFollow (h : idleBroadcast ty s = .next t) : TimersFollow s t := by
  unfold idleBroadcast at h
  split at h
  · obtain ⟨-, rfl⟩ := indicate_next h; exact .delivers rfl rfl rfl id
  · cases h; exact .refl s

/-- The two requests enter AnswerDataRequest and clear `reply_timer`; a Poll-For-Master is answered by a Send. -/
theorem idleDirected_timersFollow (hs : s.tkState = .idle) (h : idleDirected ty s = .next t) : TimersFollow s t := by
  have hne : s.tkState ≠ .answerDataRequest := by simp [hs]
  by_cases ha : AnsweredInIdle ty
  · obtain rfl | rfl | rfl | rfl := ha
    · cases h; exact .quiet rfl rfl rfl nofun
    · cases h; exact .sends rfl rfl rfl id
    · cases h; exact ⟨.inl ⟨rfl, .inl rfl⟩, .of_entry rfl ⟨rfl, hne⟩⟩
    · obtain ⟨-, rfl⟩ := indicate_next h
      exact ⟨.inl ⟨rfl, .inr ⟨5, rfl⟩⟩, .of_entry rfl ⟨rfl, hne⟩⟩
  · exact idleBroadcast_timersFollow (idleDirected_other ha ▸ h)

theorem idleFrame_timersFollow (hs : s.tkState = .idle) (h : idleFrame ty s = .next t) : TimersFollow s t := by
  unfold idleFrame at h
  split at h
  · exact idleDirected_timersFollow (s := { s with rvf := false }) hs h
  split at h
  · exact idleBroadcast_timersFollow (s := { s with rvf := false }) h
  · cases h; exact .quiet rfl rfl rfl id

theorem waitFrame_timersFollow (h : waitFrame ty s = .next t) : TimersFollow s t := by
  unfold waitFrame at h
  split at h
  · obtain ⟨-, rfl⟩ := indicate_next h; exact .delivers rfl rfl rfl nofun
  split at h
  · cases h; exact .quiet rfl rfl rfl nofun
  · cases h; exact .quiet rfl rfl rfl nofun

theorem pollFrame_timersFollow (h : pollFrame ty s = .next t) : TimersFollow s t := by
  unfold pollFrame at h
  split at h
  · cases h; exact .sends rfl rfl rfl nofun
  · cases h; exact .quiet rfl rfl rfl nofun

/-- A frame taken, in whatever state takes it. -/
theorem frameAction_timersFollow (h : frameAction ty s = .next t) : TimersFollow s t := by
  unfold frameAction at h
  cases hs : s.tkState <;> simp only [hs] at h
  case idle => exact idleFrame_timersFollow hs h
  case waitForReply => exact waitFrame_timersFollow h
  case pollForMaster => exact pollFrame_timersFollow h
  all_goals cases h; exact .refl s

theorem takeFrame_timersFollow (h : takeFrame ty s = .next t) : TimersFollow s t := by
  obtain rfl | ⟨-, ha⟩ := takeFrame_next h
  · exact .refl _
  · exact frameAction_timersFollow ha

theorem idleStep_timersFollow (hs : s.tkState = .idle) (h : idleStep s = .next t) : TimersFollow s t := by
  unfold idleStep at h
  split at h
  · cases h; exact .quiet rfl rfl rfl nofun
  split at h
  · cases h; exact .quiet rfl rfl rfl id
  split at h
  · exact idleFrame_timersFollow hs h
  · cases h; exact .refl s

theorem useTokenStep_timersFollow (h : useTokenStep s = .next t) : TimersFollow s t := by
  unfold useTokenStep at h
  split at h
  · cases h; exact .quiet rfl rfl rfl nofun
  · obtain ⟨-, h⟩ := withOctets_next h
    split at h
    · cases h; exact .sends rfl rfl rfl nofun
    · cases h; exact .sends rfl rfl rfl nofun

theorem waitStep_timersFollow (h : waitStep s = .next t) : TimersFollow s t := by
  unfold waitStep at h
  split at h
  · cases h; exact .quiet rfl rfl rfl nofun
  split at h
  · cases h; exact .quiet rfl rfl rfl nofun
  split at h
  · exact waitFrame_timersFollow h
  · cases h; exact .refl s

/-- The first two branches go on using the token; each of the other four sends a frame (42_token_fsm.md R157). -/
theorem doneStep_timersFollow (s : State) : TimersFollow s (doneStep s) := by
  unfold doneStep
  split
  · exact .quiet rfl rfl rfl nofun
  split
  · exact .quiet rfl rfl rfl nofun
  (repeat' split) <;> exact .sends rfl rfl rfl nofun

theorem passStep_timersFollow (s : State) : TimersFollow s (passStep s) := by
  unfold passStep
  split
  · exact .quiet rfl rfl rfl nofun
  split
  · split
    · exact .sends rfl rfl rfl id
    · exact .sends rfl rfl rfl nofun
  · exact .refl s

theorem noTokenStep_timersFollow (s : State) : TimersFollow s (noTokenStep s) := by
  unfold noTokenStep
  split
  · exact .quiet rfl rfl rfl nofun
  split
  · exact .sends rfl rfl rfl nofun
  · exact .refl s

theorem pollUnanswered_timersFollow (s : State) : TimersFollow s (pollUnanswered s) := by
  unfold pollUnanswered
  split
  · exact .refl s
  split
  · exact .quiet rfl rfl rfl nofun
  split
  · exact .sends rfl rfl rfl nofun
  split
  · exact .sends rfl rfl rfl id
  · exact .quiet rfl rfl rfl nofun

theorem pollStep_timersFollow (h : pollStep s = .next t) : TimersFollow s t := by
  unfold pollStep at h
  split at h
  · exact pollFrame_timersFollow h
  · cases h; exact pollUnanswered_timersFollow s

theorem answerStep_timersFollow (h : answerStep s = .next t) : TimersFollow s t := by
  unfold answerStep at h
  split at h
  · obtain ⟨-, h⟩ := withOctets_next h; cases h; exact .sends rfl rfl rfl nofun
  split at h
  · obtain ⟨-, h⟩ := withOctets_next h; cases h; exact .sends rfl rfl rfl nofun
  split at h
  · cases h; exact .sends rfl rfl rfl nofun
  · cases h; exact .refl s

theorem execMasterStep_timersFollow (h : execMasterStep s = .next t) : TimersFollow s t := by
  unfold execMasterStep at h
  cases hs : s.tkState <;> simp only [hs] at h
  case initial => cases h; exact .quiet rfl rfl rfl nofun
  case idle => exact idleStep_timersFollow hs h
  case useToken => exact useTokenStep_timersFollow h
  case waitForReply => exact waitStep_timersFollow h
  case doneWithToken => cases h; exact doneStep_timersFollow s
  case passToken => cases h; exact passStep_timersFollow s
  case noToken => cases h; exact noTokenStep_timersFollow s
  case pollForMaster => exact pollStep_timersFollow h
  case answerDataRequest => exact answerStep_timersFollow h
  case unused => cases h; exact .refl s

end

/-! ## Every instruction -/

section
variable {s t : State}

theorem execTxQueue_timersFollow {d : Descriptor} (h : execTxQueue d s = .next t) : TimersFollow s t := by
  unfold execTxQueue at h
  split at h
  · cases h; exact .quiet rfl rfl rfl id
  · cases h; exact .quiet rfl rfl rfl id

theorem execReply_timersFollow {d : Descriptor} (h : execReply d s = .next t) : TimersFollow s t := by
  unfold execReply at h
  split at h
  · cases h; exact .quiet rfl rfl rfl id
  · cases h; exact .quiet rfl rfl rfl id

/-- An octet or an error clears `silence`, whatever the receiver does with it. -/
theorem execRxByte_silence {v : Octet} (h : execRxByte v s = .next t) : t.silence = 0 := by
  simpa using (receiveByte_activity h).1

theorem execRxError_silence (h : execRxError s = .next t) : t.silence = 0 := by
  cases h
  simp

variable {i : Instr} (h : exec i s = .next t) (ht : i ≠ .tick)
include h ht

/-- Every instruction that neither advances the timers nor is an octet or an error follows both rules. -/
theorem exec_timersFollow (hb : ∀ v, i ≠ .rxByte v) (he : i ≠ .rxError) : TimersFollow s t := by
  cases i with
  | rxNone =>
    have k := execRxNone_keepsHostRegs h
    have hsil : t.silence = s.silence := by cases h; simp
    exact .quiet hsil k.events k.replyTimer fun hk => (execRxNone_keepsTokenRegs h).tkState ▸ hk
  | rxByte v => exact absurd rfl (hb v)
  | rxError => exact absurd rfl he
  | tick => exact absurd rfl ht
  | masterStep => exact execMasterStep_timersFollow h
  | txQueue d => exact execTxQueue_timersFollow h
  | reply d => exact execReply_timersFollow h
  | reservedOp7 | reservedOp8F | malformed => cases h; exact .quiet rfl rfl rfl id
  | ftToken | ftPfm | ftRpfm | ftTreq | ftTrsp | ftDer | ftDner | ftRp
  | ftReserved08 | ftReserved10 | ftReserved20 | ftReserved40 | ftProprietary => exact takeFrame_timersFollow h

/-- Octets and errors too leave `reply_timer` and `tk_state` alone. -/
theorem exec_replyTimerFollowsEntry : ReplyTimerFollowsEntry s t := by
  by_cases hb : ∃ v, i = .rxByte v
  · obtain ⟨v, rfl⟩ := hb
    exact .of_no_entry (execRxByte_keepsHostRegs h).replyTimer fun hk => (execRxByte_keepsTokenRegs h).tkState ▸ hk
  by_cases he : i = .rxError
  · subst he
    exact .of_no_entry (execRxError_keepsHostRegs h).replyTimer fun hk => (execRxError_keepsTokenRegs h).tkState ▸ hk
  · exact (exec_timersFollow h ht (not_exists.1 hb) he).2

end

/-- Settles O24: octets, errors and TICK by a lemma each, every other instruction by the rule that `silence` follows
the frames sent. -/
theorem silenceClearedOnlyBy : Obligations.SilenceClearedOnlyBy := by
  refine ⟨fun i s t h => ?_, fun s t cfg rest hin h => ?_⟩
  · split
    next => exact execRxByte_silence h
    next => exact execRxError_silence h
    next => cases h; rfl
    next hb he ht => exact (exec_timersFollow h ht hb he).1.sent_or_kept
  · obtain ⟨-, rfl⟩ := step_next_of_reset hin h
    rfl

/-- Settles O25: TICK enters no state, and every other instruction follows the rule on the entry to
AnswerDataRequest. -/
theorem replyTimerClearedOnlyBy : Obligations.ReplyTimerClearedOnlyBy := by
  refine ⟨fun i s t h => ?_, fun s t cfg rest hin h => ?_⟩
  · by_cases ht : i = .tick
    · subst ht
      cases h
      exact ⟨fun ⟨hk, hne⟩ => absurd hk hne, fun _ => rfl⟩
    · rw [if_neg ht]
      exact exec_replyTimerFollowsEntry h ht
  · obtain ⟨-, rfl⟩ := step_next_of_reset hin h
    rfl

end Sys2Proof.Machine
end

section
/-! PROOFS. The host interface's family (44_host_ops.md): how a command word's fields decide what it decodes to, what
TX_QUEUE and REPLY accept and store, and that nothing but reset clears CMD_IGNORED. -/

namespace Sys2Proof.Machine

/-! ## The fields of a command word -/

section
variable {w : Word16} {d : Descriptor}

theorem opField_toNat (w : Word16) : (opField w).toNat = w.toNat / 4096 := by
  have := w.isLt
  rw [opField, BitVec.extractLsb'_toNat, Nat.shiftRight_eq_div_pow]
  omega

theorem rsvField_toNat (w : Word16) : (rsvField w).toNat = w.toNat / 256 % 16 := by
  rw [rsvField, BitVec.extractLsb'_toNat, Nat.shiftRight_eq_div_pow]

theorem immField_toNat (w : Word16) : (immField w).toNat = w.toNat % 256 := by
  rw [immField, BitVec.extractLsb'_toNat, Nat.shiftRight_zero]

theorem immField_eq_ofNat (w : Word16) : immField w = BitVec.ofNat 8 (w.toNat % 256) := by
  rw [← immField_toNat, BitVec.ofNat_toNat, BitVec.setWidth_eq]

theorem isMalformedWord_iff :
    isMalformedWord w = true ↔ w.toNat / 256 % 16 ≠ 0 ∨ (w.toNat / 4096 ≠ 1 ∧ w.toNat % 256 ≠ 0) := by
  simp [isMalformedWord, ← opField_toNat, ← rsvField_toNat, ← immField_toNat, BitVec.toNat_eq]

/-! ## What a word decodes to -/

theorem decodeWord_of_malformed (hop : w.toNat / 4096 ≤ 6) (hm : isMalformedWord w = true) :
    decodeWord w d = .malformed w :=
  if_pos (by simp [hm, BitVec.le_def, opField_toNat, hop])

theorem decodeWord_of_reserved (hop : 6 < w.toNat / 4096) : decodeWord w d = commandOfOp (opField w) w d :=
  if_neg (by simp [BitVec.le_def, opField_toNat, hop])

theorem decodeWord_of_not_malformed (hm : ¬isMalformedWord w = true) :
    decodeWord w d = commandOfOp (opField w) w d :=
  if_neg (by simp [hm])

/-- A word decoded as malformed is one (30_encoding.md R75), and a descriptor proper is what TX_QUEUE and REPLY need. -/
theorem decodeWord_problem (hd : d.wf = true) : (decodeWord w d).problem = none := by
  unfold decodeWord
  split
  next h =>
    obtain ⟨hop, hm⟩ := Bool.and_eq_true_iff.1 h
    rw [decide_eq_true_iff, BitVec.le_def, opField_toNat] at hop
    rw [isMalformedWord_iff] at hm
    have hres : ¬6 < w.toNat / 4096 := Nat.not_lt.2 hop
    have hcmd : ¬(w.toNat / 256 % 16 = 0 ∧ (w.toNat / 4096 = 1 ∨ w.toNat % 256 = 0)) := by omega
    rw [Instr.problem, if_neg hres, if_neg hcmd]
  next =>
    unfold commandOfOp
    split <;> simp [Instr.problem, hd]

/-- Beside a descriptor proper every word decodes (30_encoding.md R80). -/
theorem decode_command (hd : d.wf = true) : decode (.command ⟨w, d⟩) = .ok (decodeWord w d) := by
  simp only [decode, decodeWord_problem hd]

end

/-- The instruction executes `ignore()`. -/
def Ignored (i : Instr) : Prop := ∀ s, exec i s = .next (ignoreCommand s)

theorem ignored_reservedOp7 (low : BitVec 12) : Ignored (.reservedOp7 low) := fun _ => rfl

theorem ignored_reservedOp8F (low : BitVec 15) : Ignored (.reservedOp8F low) := fun _ => rfl

theorem ignored_malformed (w : Word16) : Ignored (.malformed w) := fun _ => rfl

/-- Ops 7 to 15 are reserved. -/
theorem ignored_commandOfOp {op : BitVec 4} (w : Word16) (d : Descriptor) (h : 6 < op.toNat) :
    Ignored (commandOfOp op w d) := by
  unfold commandOfOp
  split
  case h_8 => exact ignored_reservedOp7 _
  case h_9 => exact ignored_reservedOp8F _
  all_goals omega

/-- A word to be ignored has a reserved op, or is malformed below it. -/
theorem ignored_decodeWord {w : Word16} {d : Descriptor} (h : 6 < w.toNat / 4096 ∨ isMalformedWord w = true) :
    Ignored (decodeWord w d) := by
  by_cases hop : 6 < w.toNat / 4096
  · rw [decodeWord_of_reserved hop]
    exact ignored_commandOfOp w d (opField_toNat w ▸ hop)
  · rw [decodeWord_of_malformed (Nat.not_lt.1 hop) (h.resolve_left hop)]
    exact ignored_malformed w

/-- Ops 0 to 6 are the seven commands (30_encoding.md R73). -/
theorem commandOfOp_of_le {op : BitVec 4} (w : Word16) (d : Descriptor) (h : op.toNat ≤ 6) :
    commandOfOp op w d =
      if op.toNat = 0 then .rxNone
      else if op.toNat = 1 then .rxByte (immField w)
      else if op.toNat = 2 then .rxError
      else if op.toNat = 3 then .tick
      else if op.toNat = 4 then .masterStep
      else if op.toNat = 5 then .txQueue d
      else .reply d := by
  unfold commandOfOp
  generalize op.toNat = n at h ⊢
  interval_cases n <;> rfl

/-- Settles O3: beside a descriptor proper every word decodes; its op and whether it is malformed say to what. -/
theorem wordDecodesByItsFields : Obligations.WordDecodesByItsFields := by
  intro w d hd
  dsimp only
  rw [decode_command hd, ← isMalformedWord_iff]
  refine ⟨fun h => ⟨_, rfl, ignored_decodeWord h⟩, fun h => ?_⟩
  obtain ⟨hop, hm⟩ := not_or.1 h
  rw [decodeWord_of_not_malformed hm, commandOfOp_of_le w d (by rw [opField_toNat]; omega), opField_toNat,
    immField_eq_ofNat]

/-! ## TX_QUEUE and REPLY -/

theorem txAcceptable_iff {s : State} {t d : Octet} {n : Word16} :
    txAcceptable s t d n = true ↔
      s.txqValid = false ∧ (t = 3 ∨ t = 5 ∨ t = 6 ∨ 128 ≤ t.toNat) ∧ n.toNat ≤ nMaxData ∧
        ¬((t = 3 ∨ t = 5) ∧ d = 255) := by
  simp [txAcceptable, isQueueable, isProprietary, expectsReply, broadcast, BitVec.le_def, and_assoc, or_assoc,
    -not_and, not_and_or]

theorem rplAcceptable_iff {s : State} {t : Octet} {n : Word16} :
    rplAcceptable s t n = true ↔
      s.tkState = .answerDataRequest ∧ s.reqType = 5 ∧ s.rplValid = false ∧ (t = 6 ∨ 128 ≤ t.toNat) ∧
        n.toNat ≤ nMaxData := by
  simp [rplAcceptable, isReplyType, isProprietary, BitVec.le_def, and_assoc]

/-- Storing a descriptor's data: positions below `d_len` hold it, and the others are as before (44_host_ops.md R198,
R200). -/
theorem Memory.writeAll_descriptor {m : Memory} {d : Descriptor} (hm : m.wf = true) (hd : d.wf = true)
    (hl : d.dLen.toNat ≤ nMaxData) :
    (m.writeAll 0 d.dData).octets d.dLen.toNat = d.dData ∧
      ∀ a : Nat, d.dLen.toNat ≤ a → (m.writeAll 0 d.dData).read a = m.read a := by
  have hlen : d.dData.length = d.dLen.toNat := beq_iff_eq.1 hd
  rw [← hlen] at hl ⊢
  exact ⟨Memory.octets_writeAll hl hm, fun a ha => Memory.read_writeAll_above m (by omega)⟩

/-- Settles O26: the acceptance test is R199, and the data stored is the descriptor's. -/
theorem txQueueFillsOrIgnores : Obligations.TxQueueFillsOrIgnores := by
  intro s d hm hd
  refine ⟨fun h => ?_, fun h => if_neg (mt txAcceptable_iff.1 h)⟩
  have hacc := txAcceptable_iff.2 h
  obtain ⟨-, -, hl, -⟩ := h
  exact ⟨_, if_pos hacc, Memory.writeAll_descriptor hm hd hl⟩

/-- Settles O27: the acceptance test is R201, and the data stored is the descriptor's. -/
theorem replyFillsOrIgnores : Obligations.ReplyFillsOrIgnores := by
  intro s d hm hd
  refine ⟨fun h => ?_, fun h => if_neg (mt rplAcceptable_iff.1 h)⟩
  have hacc := rplAcceptable_iff.2 h
  obtain ⟨-, -, -, -, hl⟩ := h
  exact ⟨_, if_pos hacc, Memory.writeAll_descriptor hm hd hl⟩

/-! ## The token machine never writes STATUS (10_state.md R35) -/

section
variable {s t : State} {ty : Octet}

theorem indicate_status (h : indicate ty s = .next t) : t.status = s.status := by
  obtain ⟨-, rfl⟩ := indicate_next h
  rfl

theorem idleBroadcast_status (h : idleBroadcast ty s = .next t) : t.status = s.status := by
  unfold idleBroadcast at h
  split at h
  · exact indicate_status h
  · cases h; rfl

theorem idleDirected_status (h : idleDirected ty s = .next t) : t.status = s.status := by
  by_cases ha : AnsweredInIdle ty
  · obtain rfl | rfl | rfl | rfl := ha
    · cases h; rfl
    · cases h; rfl
    · cases h; rfl
    · obtain ⟨-, rfl⟩ := indicate_next h; rfl
  · exact idleBroadcast_status (idleDirected_other ha ▸ h)

theorem idleFrame_status (h : idleFrame ty s = .next t) : t.status = s.status := by
  unfold idleFrame at h
  split at h
  · exact idleDirected_status (s := { s with rvf := false }) h
  split at h
  · exact idleBroadcast_status (s := { s with rvf := false }) h
  · cases h; rfl

theorem waitFrame_status (h : waitFrame ty s = .next t) : t.status = s.status := by
  unfold waitFrame at h
  split at h
  · obtain ⟨-, rfl⟩ := indicate_next h; rfl
  split at h
  · cases h; rfl
  · cases h; rfl

theorem pollFrame_status (h : pollFrame ty s = .next t) : t.status = s.status := by
  unfold pollFrame at h
  split at h
  · cases h; rfl
  · cases h; rfl

theorem takeFrame_status (h : takeFrame ty s = .next t) : t.status = s.status := by
  obtain rfl | ⟨hf, ha⟩ := takeFrame_next h
  · rfl
  obtain ⟨hs, -⟩ | ⟨hs, -⟩ | ⟨hs, -⟩ := (takesFrame_iff s).1 hf <;> simp only [frameAction, hs] at ha
  · exact idleFrame_status ha
  · exact waitFrame_status ha
  · exact pollFrame_status ha

theorem idleStep_status (h : idleStep s = .next t) : t.status = s.status := by
  unfold idleStep at h
  split at h
  · cases h; rfl
  split at h
  · cases h; rfl
  split at h
  · exact idleFrame_status h
  · cases h; rfl

theorem useTokenStep_status (h : useTokenStep s = .next t) : t.status = s.status := by
  unfold useTokenStep at h
  split at h
  · cases h; rfl
  · obtain ⟨-, h⟩ := withOctets_next h
    split at h
    · cases h; rfl
    · cases h; rfl

theorem waitStep_status (h : waitStep s = .next t) : t.status = s.status := by
  unfold waitStep at h
  split at h
  · cases h; rfl
  split at h
  · cases h; rfl
  split at h
  · exact waitFrame_status h
  · cases h; rfl

theorem pollStep_status (h : pollStep s = .next t) : t.status = s.status := by
  unfold pollStep at h
  split at h
  · exact pollFrame_status h
  · cases h; exact pollUnanswered_status s

theorem answerStep_status (h : answerStep s = .next t) : t.status = s.status := by
  unfold answerStep at h
  split at h
  · obtain ⟨-, h⟩ := withOctets_next h; cases h; rfl
  split at h
  · obtain ⟨-, h⟩ := withOctets_next h; cases h; rfl
  split at h
  · cases h; rfl
  · cases h; rfl

theorem execMasterStep_status (h : execMasterStep s = .next t) : t.status = s.status := by
  unfold execMasterStep at h
  cases hs : s.tkState <;> simp only [hs] at h
  case initial => cases h; rfl
  case idle => exact idleStep_status h
  case useToken => exact useTokenStep_status h
  case waitForReply => exact waitStep_status h
  case doneWithToken => cases h; exact doneStep_status s
  case passToken => cases h; exact passStep_status s
  case noToken => cases h; exact noTokenStep_status s
  case pollForMaster => exact pollStep_status h
  case answerDataRequest => exact answerStep_status h
  case unused => cases h; rfl

/-! ## CMD_IGNORED is sticky -/

/-- `ignore()` leaves CMD_IGNORED set. -/
theorem ignoreCommand_cmdIgnored (s : State) : (ignoreCommand s).cmdIgnored = true := by
  simp [State.cmdIgnored]

theorem cmdIgnored_of_status_eq (h : t.status = s.status) : t.cmdIgnored = s.cmdIgnored :=
  congrArg (BitVec.getLsbD · 1) h

theorem execTxQueue_cmdIgnored {d : Descriptor} (h : execTxQueue d s = .next t) :
    t.cmdIgnored = s.cmdIgnored ∨ t.cmdIgnored = true := by
  unfold execTxQueue at h
  split at h
  · cases h; exact .inl rfl
  · cases h; exact .inr (ignoreCommand_cmdIgnored s)

theorem execReply_cmdIgnored {d : Descriptor} (h : execReply d s = .next t) :
    t.cmdIgnored = s.cmdIgnored ∨ t.cmdIgnored = true := by
  unfold execReply at h
  split at h
  · cases h; exact .inl rfl
  · cases h; exact .inr (ignoreCommand_cmdIgnored s)

/-- All that an instruction can do to CMD_IGNORED: keep it or set it (10_state.md R34). -/
theorem exec_cmdIgnored {i : Instr} (h : exec i s = .next t) : t.cmdIgnored = s.cmdIgnored ∨ t.cmdIgnored = true := by
  cases i with
  | rxNone => exact .inl (execRxNone_keepsHostRegs h).cmdIgnored
  | rxByte v => exact .inl (execRxByte_keepsHostRegs h).cmdIgnored
  | rxError => exact .inl (execRxError_keepsHostRegs h).cmdIgnored
  | tick => cases h; exact .inl rfl
  | masterStep => exact .inl (cmdIgnored_of_status_eq (execMasterStep_status h))
  | txQueue d => exact execTxQueue_cmdIgnored h
  | reply d => exact execReply_cmdIgnored h
  | reservedOp7 | reservedOp8F | malformed => cases h; exact .inr (ignoreCommand_cmdIgnored s)
  | ftToken | ftPfm | ftRpfm | ftTreq | ftTrsp | ftDer | ftDner | ftRp
  | ftReserved08 | ftReserved10 | ftReserved20 | ftReserved40 | ftProprietary =>
    exact .inl (cmdIgnored_of_status_eq (takeFrame_status h))

end

/-- Settles O28: the unused words execute `ignore()`, no instruction clears the bit, and in Idle the timeout phase does
nothing. -/
theorem unusedWordsIgnored : Obligations.UnusedWordsIgnored :=
  ⟨fun s a b w => ⟨ignored_reservedOp7 a s, ignored_reservedOp8F b s, ignored_malformed w s⟩,
    fun _ _ _ h hs => (exec_cmdIgnored h).elim (·.trans hs) id,
    fun _ hr => congrArg Host.Outcome.next (timeoutPhase_of_idle hr)⟩

end Sys2Proof.Machine
end

section
/-! PROOFS. The reset and hazards family (70_reset_and_hazards.md): the one state that a step taking a reset leaves, and
the reset values read off it. -/

namespace Sys2Proof.Machine

/-! ## A step that takes a reset -/

section
variable {s : State} {cfg : Config} {rest : List Input}

/-- A legal configuration standing at the release: the whole next state (70_reset_and_hazards.md R236, R237). It keeps
of the state before the step only the host's stream and the events already emitted (log entry 4). -/
theorem step_reset_of_legal (hin : s.inputs = .reset cfg :: rest) (hc : configLegal cfg = true) :
    step s = .next { State.resetWith cfg with inputs := rest, events := s.events } := by
  rw [step_of_input hin, runInput, applyReset, if_pos hc]

/-- An illegal configuration standing at the release is refused (70_reset_and_hazards.md R240). -/
theorem step_reset_of_illegal (hin : s.inputs = .reset cfg :: rest) (hc : configLegal cfg = false) :
    step s = .refused .illegalConfig := by
  rw [step_of_input hin, runInput, applyReset, if_neg (ne_true_of_eq_false hc)]

end

/-! ## The buffers at reset -/

/-- A buffer that lists nothing reads 0x00 everywhere (10_state.md R17). -/
@[simp] theorem Memory.read_nil (a : Nat) : Memory.read [] a = 0 := rfl

/-- Settles O55: a step that takes a reset leaves the reset state whatever it found, every register of that state is
written out in `State.resetWith`, and its three buffers list nothing. -/
theorem resetFromEveryState : Obligations.ResetFromEveryState := by
  intro s cfg rest hin
  constructor
  · intro hc
    refine ⟨_, step_reset_of_legal hin hc, ?_⟩
    simp [State.resetWith]
  · exact step_reset_of_illegal hin

end Sys2Proof.Machine
end

section
/-! PROOFS. The encodings (30_encoding.md): the decoder gives back every well-formed instruction from its encoding, and
every frame-type octet is the encoding of its row. -/

namespace Sys2Proof.Machine
open Sys2Proof.Statements

/-! ## Fields put together and taken apart -/

/-- Two fields joined, as a number. -/
theorem toNat_fields {n w : Nat} (hi : BitVec n) (lo : BitVec w) :
    (hi ++ lo).toNat = hi.toNat * 2 ^ w + lo.toNat := by
  rw [BitVec.toNat_append, Nat.shiftLeft_eq, Nat.mul_comm, ← Nat.two_pow_add_eq_or_of_lt lo.isLt]

/-- The low field of two joined ones. -/
theorem extract_low_fields {n w : Nat} (hi : BitVec n) (lo : BitVec w) : (hi ++ lo).extractLsb' 0 w = lo := by
  apply BitVec.eq_of_toNat_eq
  rw [BitVec.extractLsb'_toNat, Nat.shiftRight_zero, toNat_fields, Nat.mul_add_mod',
    Nat.mod_eq_of_lt lo.isLt]

/-- A number whose high part is `hi` is `hi` joined with its low field. -/
theorem fields_extract_low {n w : Nat} {hi : BitVec n} {v : BitVec (n + w)} (h : v.toNat / 2 ^ w = hi.toNat) :
    hi ++ v.extractLsb' 0 w = v := by
  apply BitVec.eq_of_toNat_eq
  rw [toNat_fields, BitVec.extractLsb'_toNat, Nat.shiftRight_zero, ← h, Nat.div_add_mod']

/-! ## Frame-type octets, by range (30_encoding.md R66 to R68) -/

section
variable {t : Octet}

theorem decodeFrameType_proprietary (h : 128 ≤ t.toNat) :
    decodeFrameType t = .ftProprietary (t.extractLsb' 0 7) :=
  if_pos h

theorem decodeFrameType_reserved40 (h : 64 ≤ t.toNat) (h' : t.toNat < 128) :
    decodeFrameType t = .ftReserved40 (t.extractLsb' 0 6) := by
  rw [decodeFrameType, if_neg (by bv_omega), if_pos (by bv_omega)]

theorem decodeFrameType_reserved20 (h : 32 ≤ t.toNat) (h' : t.toNat < 64) :
    decodeFrameType t = .ftReserved20 (t.extractLsb' 0 5) := by
  rw [decodeFrameType, if_neg (by bv_omega), if_neg (by bv_omega), if_pos (by bv_omega)]

theorem decodeFrameType_reserved10 (h : 16 ≤ t.toNat) (h' : t.toNat < 32) :
    decodeFrameType t = .ftReserved10 (t.extractLsb' 0 4) := by
  rw [decodeFrameType, if_neg (by bv_omega), if_neg (by bv_omega), if_neg (by bv_omega), if_pos (by bv_omega)]

theorem decodeFrameType_reserved08 (h : 8 ≤ t.toNat) (h' : t.toNat < 16) :
    decodeFrameType t = .ftReserved08 (t.extractLsb' 0 3) := by
  rw [decodeFrameType, if_neg (by bv_omega), if_neg (by bv_omega), if_neg (by bv_omega), if_neg (by bv_omega),
    if_pos (by bv_omega)]

/-- The eight defined types (30_encoding.md R66). -/
theorem encode_decodeFrameType_defined (h : t.toNat < 8) : encode (decodeFrameType t) = .frameType t := by
  obtain ⟨n, rfl⟩ : ∃ n : Fin 8, t = BitVec.ofNat 8 n := ⟨⟨t.toNat, h⟩, by simp⟩
  revert n
  decide

/-- Every frame-type octet is the encoding of the row it decodes to. -/
theorem encode_decodeFrameType (t : Octet) : encode (decodeFrameType t) = .frameType t := by
  by_cases h80 : 128 ≤ t.toNat
  · rw [decodeFrameType_proprietary h80, encode, fields_extract_low (n := 1) (by simp; omega)]
  by_cases h40 : 64 ≤ t.toNat
  · rw [decodeFrameType_reserved40 h40 (by omega), encode, fields_extract_low (n := 2) (by simp; omega)]
  by_cases h20 : 32 ≤ t.toNat
  · rw [decodeFrameType_reserved20 h20 (by omega), encode, fields_extract_low (n := 3) (by simp; omega)]
  by_cases h10 : 16 ≤ t.toNat
  · rw [decodeFrameType_reserved10 h10 (by omega), encode, fields_extract_low (n := 4) (by simp; omega)]
  by_cases h08 : 8 ≤ t.toNat
  · rw [decodeFrameType_reserved08 h08 (by omega), encode, fields_extract_low (n := 5) (by simp; omega)]
  · exact encode_decodeFrameType_defined (by omega)

end

/-- Settles O4: the octet's range says the row, and the row's fixed bits with the octet's low field are the octet. -/
theorem frameTypesDecode : Obligations.FrameTypesDecode := by
  intro t
  refine ⟨encode_decodeFrameType t, ?_, ?_, ?_, ?_, ?_, ?_, ?_, ?_, fun h => ⟨_, decodeFrameType_reserved08 h.1 h.2⟩,
    fun h => ⟨_, decodeFrameType_reserved10 h.1 h.2⟩, fun h => ⟨_, decodeFrameType_reserved20 h.1 h.2⟩,
    fun h => ⟨_, decodeFrameType_reserved40 h.1 h.2⟩, fun h => ⟨_, decodeFrameType_proprietary h⟩⟩ <;>
    (rintro rfl; rfl)

/-! ## Command words -/

/-- A word whose op is `op`, with legal reserved fields, decodes to that op's command or reserved word. -/
theorem decodeWord_of_op {w : Word16} {d : Descriptor} {op : BitVec 4} (hop : w.toNat / 4096 = op.toNat)
    (hlegal : 6 < op.toNat ∨ ¬isMalformedWord w = true) : decodeWord w d = commandOfOp op w d := by
  have hf : opField w = op := BitVec.eq_of_toNat_eq ((opField_toNat w).trans hop)
  obtain h | h := hlegal
  · rw [decodeWord_of_reserved (hop ▸ h), hf]
  · rw [decodeWord_of_not_malformed h, hf]

/-- A malformed word proper is none of the seven commands, nor a reserved word (30_encoding.md R75). -/
theorem malformed_of_wf {w : Word16} (h : (Instr.malformed w).wf = true) :
    w.toNat / 4096 ≤ 6 ∧ isMalformedWord w = true := by
  rw [isMalformedWord_iff]
  have hp : (Instr.malformed w).problem = none := beq_iff_eq.1 h
  rw [Instr.problem] at hp
  split at hp
  · cases hp
  split at hp
  · cases hp
  · omega

/-- What stands beside a command that reads no descriptor is one of no octets. -/
theorem absent_wf : Descriptor.absent.wf = true := rfl

theorem decode_plain (w : Word16) : decode (.command (.plain w)) = .ok (decodeWord w .absent) :=
  decode_command absent_wf

theorem decodeWord_rxByte (v : Octet) (d : Descriptor) : decodeWord (0x10#8 ++ v) d = .rxByte v := by
  have hw : (0x10#8 ++ v).toNat = 0x1000 + v.toNat := toNat_fields _ v
  have hv := v.isLt
  rw [decodeWord_of_op (op := 1) (by rw [hw]; simp; omega) (.inr (by rw [isMalformedWord_iff, hw]; omega))]
  exact congrArg Instr.rxByte (extract_low_fields _ v)

theorem decodeWord_reservedOp7 (low : BitVec 12) (d : Descriptor) :
    decodeWord (0x7#4 ++ low) d = .reservedOp7 low := by
  have hw : (0x7#4 ++ low).toNat = 0x7000 + low.toNat := toNat_fields _ low
  have hl := low.isLt
  rw [decodeWord_of_op (op := 7) (by rw [hw]; simp; omega) (.inl (by decide))]
  exact congrArg Instr.reservedOp7 (extract_low_fields _ low)

/-- Ops 8 to 15 are one row. -/
theorem commandOfOp_high {op : BitVec 4} {w : Word16} {d : Descriptor} (h : 8 ≤ op.toNat) :
    commandOfOp op w d = .reservedOp8F (w.extractLsb' 0 15) := by
  unfold commandOfOp
  split
  case h_9 => rfl
  all_goals omega

theorem decodeWord_reservedOp8F (low : BitVec 15) (d : Descriptor) :
    decodeWord (1#1 ++ low) d = .reservedOp8F low := by
  have hw : (1#1 ++ low).toNat = 0x8000 + low.toNat := toNat_fields _ low
  have hop : 8 ≤ (opField (1#1 ++ low)).toNat := by rw [opField_toNat]; omega
  rw [decodeWord_of_op (opField_toNat _).symm (.inl (by omega)), commandOfOp_high hop]
  exact congrArg Instr.reservedOp8F (extract_low_fields _ low)

/-! ## The two directions -/

/-- Settles O2: row by row, the fixed bits of the encoding select the row and the low field is the operand. -/
theorem decodeInvertsEncode : Obligations.DecodeInvertsEncode := by
  intro i hi
  cases i with
  | rxNone | rxError | tick | masterStep => rfl
  | rxByte v => rw [encode, decode_plain, decodeWord_rxByte]
  | txQueue d =>
    have hd : d.wf = true := by simpa [Instr.wf, Instr.problem] using hi
    rw [encode, decode_command hd]
    rfl
  | reply d =>
    have hd : d.wf = true := by simpa [Instr.wf, Instr.problem] using hi
    rw [encode, decode_command hd]
    rfl
  | reservedOp7 low => rw [encode, decode_plain, decodeWord_reservedOp7]
  | reservedOp8F low => rw [encode, decode_plain, decodeWord_reservedOp8F]
  | malformed w =>
    obtain ⟨hop, hm⟩ := malformed_of_wf hi
    rw [encode, decode_plain, decodeWord_of_malformed hop hm]
  | ftToken | ftPfm | ftRpfm | ftTreq | ftTrsp | ftDer | ftDner | ftRp => rfl
  | ftReserved08 k =>
    have ht : (1#5 ++ k).toNat = 8 + k.toNat := toNat_fields _ k
    have hk := k.isLt
    rw [encode, decode, decodeFrameType_reserved08 (by omega) (by omega), extract_low_fields]
  | ftReserved10 k =>
    have ht : (1#4 ++ k).toNat = 16 + k.toNat := toNat_fields _ k
    have hk := k.isLt
    rw [encode, decode, decodeFrameType_reserved10 (by omega) (by omega), extract_low_fields]
  | ftReserved20 k =>
    have ht : (1#3 ++ k).toNat = 32 + k.toNat := toNat_fields _ k
    have hk := k.isLt
    rw [encode, decode, decodeFrameType_reserved20 (by omega) (by omega), extract_low_fields]
  | ftReserved40 k =>
    have ht : (1#2 ++ k).toNat = 64 + k.toNat := toNat_fields _ k
    have hk := k.isLt
    rw [encode, decode, decodeFrameType_reserved40 (by omega) (by omega), extract_low_fields]
  | ftProprietary k =>
    have ht : (1#1 ++ k).toNat = 128 + k.toNat := toNat_fields _ k
    rw [encode, decode, decodeFrameType_proprietary (by omega), extract_low_fields]

/-- Settles O1: the decoder is run on each of the fourteen. -/
theorem specWordsDecode : Obligations.SpecWordsDecode := by
  refine ⟨rfl, rfl, rfl, rfl, rfl, rfl, rfl, rfl, rfl, rfl, rfl, rfl, rfl, rfl⟩

end Sys2Proof.Machine
end

section
/-! PROOFS. The checksums and the encoder (40_frame_codec.md): both update functions are eight rounds of a shift register
with feedback, whose rounds are linear and lose nothing; what checks good and what is detected follow from that. -/

namespace Sys2Proof.Machine

/-! ## One round of a shift register with feedback -/

/-- One round of either register: shifted right by one bit, with `poly` added where the bit shifted out is 1
(40_frame_codec.md R83, R87). -/
def feedbackRound {w : Nat} (poly a : BitVec w) : BitVec w :=
  if a.getLsbD 0 then (a >>> 1) ^^^ poly else a >>> 1

theorem hRound_eq_feedbackRound : hRound = feedbackRound 0x81 := rfl

theorem dRound_eq_feedbackRound : dRound = feedbackRound 0x8408 := rfl

section
variable {w : Nat} {poly : BitVec w}

/-- The feedback as a term of its own. -/
theorem feedbackRound_eq (a : BitVec w) :
    feedbackRound poly a = (a >>> 1) ^^^ (if a.getLsbD 0 then poly else 0#w) := by
  unfold feedbackRound
  split
  · rfl
  · exact BitVec.xor_zero.symm

/-- A round is linear. -/
theorem feedbackRound_xor (a b : BitVec w) :
    feedbackRound poly (a ^^^ b) = feedbackRound poly a ^^^ feedbackRound poly b := by
  have hpoly : (if (a ^^^ b).getLsbD 0 then poly else 0#w) =
      (if a.getLsbD 0 then poly else 0#w) ^^^ (if b.getLsbD 0 then poly else 0#w) := by
    rw [BitVec.getLsbD_xor]
    cases a.getLsbD 0 <;> cases b.getLsbD 0 <;> simp
  rw [feedbackRound_eq, feedbackRound_eq, feedbackRound_eq, hpoly, BitVec.ushiftRight_xor_distrib]
  ac_rfl

/-- Where the feedback reaches the top bit, the top bit after a round is the bit that was shifted out. -/
theorem msb_feedbackRound (hp : poly.msb = true) (a : BitVec w) : (feedbackRound poly a).msb = a.getLsbD 0 := by
  rw [feedbackRound_eq, BitVec.msb_xor]
  cases a.getLsbD 0 <;> simp [hp, BitVec.msb_ushiftRight]

/-- So a round loses nothing. -/
theorem feedbackRound_injective (hp : poly.msb = true) : Function.Injective (feedbackRound poly) := by
  intro a b h
  have h0 : a.getLsbD 0 = b.getLsbD 0 := by rw [← msb_feedbackRound hp, h, msb_feedbackRound hp]
  have hs : a >>> 1 = b >>> 1 := by
    rw [feedbackRound_eq, feedbackRound_eq, h0] at h
    exact (BitVec.xor_left_inj _).1 h
  apply BitVec.eq_of_getLsbD_eq
  intro i _
  cases i with
  | zero => exact h0
  | succ i => simpa [Nat.add_comm] using congrArg (BitVec.getLsbD · i) hs

end

/-! ## Eight rounds -/

theorem hRound_injective : Function.Injective hRound := by
  rw [hRound_eq_feedbackRound]
  exact feedbackRound_injective rfl

theorem dRound_injective : Function.Injective dRound := by
  rw [dRound_eq_feedbackRound]
  exact feedbackRound_injective rfl

theorem dRound_xor (a b : Word16) : dRound (a ^^^ b) = dRound a ^^^ dRound b := by
  rw [dRound_eq_feedbackRound, feedbackRound_xor]

theorem hRounds_injective (n : Nat) : Function.Injective (hRounds n) := by
  induction n with
  | zero => exact Function.injective_id
  | succ n ih => exact ih.comp hRound_injective

theorem dRounds_injective (n : Nat) : Function.Injective (dRounds n) := by
  induction n with
  | zero => exact Function.injective_id
  | succ n ih => exact ih.comp dRound_injective

theorem dRounds_xor (n : Nat) (a b : Word16) : dRounds n (a ^^^ b) = dRounds n a ^^^ dRounds n b := by
  induction n generalizing a b with
  | zero => rfl
  | succ n ih =>
    rw [dRounds, dRound_xor, ih]
    rfl

/-- Rounds without feedback only shift. -/
theorem dRounds_of_low_zero {n : Nat} {a : Word16} (h : ∀ i < n, a.getLsbD i = false) : dRounds n a = a >>> n := by
  induction n generalizing a with
  | zero => simp [dRounds]
  | succ n ih =>
    have h0 : a.getLsbD 0 = false := h 0 (by omega)
    have hr : dRound a = a >>> 1 := if_neg (ne_true_of_eq_false h0)
    have hs : ∀ i < n, (a >>> 1).getLsbD i = false := fun i hi => by
      simpa [Nat.add_comm] using h (i + 1) (by omega)
    rw [dRounds, hr, ih hs, ← BitVec.shiftRight_add, Nat.add_comm]

/-! ## The closed forms (40_frame_codec.md R82, R86) -/

/-- The closed form of the header update reads accumulator and octet through their sum only. -/
theorem hUpdate_eq_of_xor (b acc : Octet) : hUpdate b acc = hUpdate (acc ^^^ b) 0 := by
  simp [hUpdate]

/-- On one octet the closed form and the eight rounds agree, octet by octet. -/
theorem hUpdate_zero_eq_rounds (x : Octet) : hUpdate x 0 = hRounds 8 x := by
  revert x
  decide

/-- Settles O5: both forms are functions of `acc ^^^ b` alone, one octet. -/
theorem headerUpdateSerialForm : Obligations.HeaderUpdateSerialForm := by
  intro b acc
  rw [hUpdate_eq_of_xor, hUpdate_zero_eq_rounds, hUpdateSerial]

/-- The closed form of the data update: the accumulator's high octet moves down, and its low octet is read through its
sum with the octet only. -/
theorem dUpdate_eq (b : Octet) (acc : Word16) :
    dUpdate b acc = (acc >>> 8) ^^^ dUpdate (acc.setWidth 8 ^^^ b) 0 := by
  simp only [dUpdate, BitVec.xor_assoc]
  simp

theorem dUpdate_zero_eq_rounds (x : Octet) : dUpdate x 0 = dRounds 8 (x.setWidth 16) := by
  revert x
  decide

/-- The high octet apart from the low one. -/
theorem xor_setWidth_split (b : Octet) (acc : Word16) :
    acc ^^^ b.setWidth 16 = ((acc >>> 8) <<< 8) ^^^ (acc.setWidth 8 ^^^ b).setWidth 16 := by
  apply BitVec.eq_of_getLsbD_eq
  intro i hi
  by_cases h : i < 8
  · simp [h, hi]
  · simp [h, hi, Nat.add_sub_cancel' (Nat.not_lt.1 h)]

/-- The closed and the serial form of the data update agree: eight rounds shift the high octet down without feedback,
and what they make of one octet is the closed form's. -/
theorem dUpdate_eq_serial (b : Octet) (acc : Word16) : dUpdate b acc = dUpdateSerial b acc := by
  have hhigh : dRounds 8 ((acc >>> 8) <<< 8) = acc >>> 8 := by
    rw [dRounds_of_low_zero fun i hi => by simp [hi]]
    apply BitVec.eq_of_getLsbD_eq
    intro i hi
    by_cases h : i + 8 < 16
    · simp [Nat.add_comm 8 i, hi, h]
    · simp [Nat.add_comm 8 i, BitVec.getLsbD_of_ge acc (i + 8) (Nat.not_lt.1 h)]
  rw [dUpdateSerial, xor_setWidth_split, dRounds_xor, hhigh, dUpdate_eq, dUpdate_zero_eq_rounds]

/-- Settles O6: the two forms agree, and the check value is computed. -/
theorem dataUpdateSerialForm : Obligations.DataUpdateSerialForm :=
  ⟨dUpdate_eq_serial, by decide⟩

/-! ## Neither update loses anything -/

theorem hUpdate_injective_octet (acc : Octet) : Function.Injective (hUpdate · acc) := by
  intro b b' h
  simp only [headerUpdateSerialForm _ acc] at h
  exact (BitVec.xor_right_inj acc).1 (hRounds_injective 8 h)

theorem hUpdate_injective_acc (b : Octet) : Function.Injective (hUpdate b) := by
  intro acc acc' h
  rw [headerUpdateSerialForm b acc, headerUpdateSerialForm b acc'] at h
  exact (BitVec.xor_left_inj b).1 (hRounds_injective 8 h)

theorem setWidth_octet_injective : Function.Injective (BitVec.setWidth 16 : Octet → Word16) := by
  intro b b' h
  simpa using congrArg (BitVec.setWidth 8) h

theorem dUpdate_injective_octet (acc : Word16) : Function.Injective (dUpdate · acc) := by
  intro b b' h
  simp only [dUpdate_eq_serial _ acc] at h
  exact setWidth_octet_injective ((BitVec.xor_right_inj acc).1 (dRounds_injective 8 h))

theorem dUpdate_injective_acc (b : Octet) : Function.Injective (dUpdate b) := by
  intro acc acc' h
  rw [dUpdate_eq_serial b acc, dUpdate_eq_serial b acc'] at h
  exact (BitVec.xor_left_inj _).1 (dRounds_injective 8 h)

/-! ## What checks good -/

/-- The complement of the accumulator, and no other octet, gives the good residue (40_frame_codec.md R85). -/
theorem hUpdate_eq_good_iff {hc acc : Octet} : hUpdate hc acc = hGood ↔ hc = ~~~acc := by
  have hgood : hUpdate (~~~acc) acc = hGood := by
    rw [hUpdate_eq_of_xor, ← BitVec.not_xor_right, BitVec.xor_self]
    decide
  exact ⟨fun h => hUpdate_injective_octet acc (h.trans hgood.symm), fun h => h ▸ hgood⟩

/-- Settles O7: the transmitted octet is the complement of the accumulator it is folded into. -/
theorem headerCrcIsTheGoodOctet : Obligations.HeaderCrcIsTheGoodOctet :=
  ⟨fun _ _ _ _ _ _ => ⟨rfl, hUpdate_eq_good_iff⟩, by decide⟩

theorem lowOctet_not (v : Word16) : lowOctet (~~~v) = ~~~lowOctet v := by
  apply BitVec.eq_of_getLsbD_eq
  intro i hi
  simp [lowOctet, hi]
  omega

theorem highOctet_not (v : Word16) : highOctet (~~~v) = ~~~highOctet v := by
  apply BitVec.eq_of_getLsbD_eq
  intro i hi
  simp [highOctet, hi]
  omega

/-- The two octets of an accumulator are where the data update reads them. -/
theorem setWidth_eq_lowOctet (v : Word16) : v.setWidth 8 = lowOctet v := by
  apply BitVec.eq_of_toNat_eq
  simp [lowOctet]

theorem shiftRight_setWidth_eq_highOctet (v : Word16) : (v >>> 8).setWidth 8 = highOctet v := by
  rw [highOctet, ← BitVec.setWidth_ushiftRight_eq_extractLsb]

/-- The complement of an accumulator, folded into it low octet first, gives the good residue whatever it was: each of the
two octets meets its own complement (40_frame_codec.md R88, R89). -/
theorem dFold_complement (acc : Word16) : dFold acc [lowOctet (~~~acc), highOctet (~~~acc)] = dGood := by
  have hfirst : dUpdate (lowOctet (~~~acc)) acc = (acc >>> 8) ^^^ 0x0F78 := by
    rw [dUpdate_eq, setWidth_eq_lowOctet, lowOctet_not, ← BitVec.not_xor_right, BitVec.xor_self]
    rfl
  have hlow : ((acc >>> 8) ^^^ 0x0F78).setWidth 8 ^^^ highOctet (~~~acc) = 0x87 := by
    rw [BitVec.setWidth_xor, shiftRight_setWidth_eq_highOctet, highOctet_not, BitVec.xor_comm (highOctet acc),
      BitVec.xor_assoc, ← BitVec.not_xor_right, BitVec.xor_self]
    rfl
  have hshift : ((acc >>> 8) ^^^ 0x0F78) >>> 8 = 0x000F := by
    have hz : acc >>> (8 + 8) = 0 := BitVec.ushiftRight_eq_zero (by omega)
    rw [BitVec.ushiftRight_xor_distrib, ← BitVec.shiftRight_add, hz]
    rfl
  rw [dFold_cons, dFold_cons, dFold_nil, hfirst, dUpdate_eq, hlow, hshift]
  decide

/-! ## The encoder -/

theorem encodeData_of_ne_nil {data : List Octet} (h : data ≠ []) :
    encodeData data = data ++ [lowOctet (dataCrc data), highOctet (dataCrc data)] := by
  cases data with
  | nil => exact absurd rfl h
  | cons b bs => rfl

/-- Settles O8: the complement checks good after any payload, and a frame with a payload ends with both. -/
theorem dataCrcChecksGood : Obligations.DataCrcChecksGood := by
  refine ⟨fun data => ⟨rfl, ?_, fun t d s h => ?_⟩, by decide⟩
  · rw [dFold_append]
    exact dFold_complement _
  · rw [encodeFrame, encodeData_of_ne_nil h, ← List.append_assoc]
    exact ⟨_, rfl⟩

theorem highOctet_toNat (v : Word16) : (highOctet v).toNat = v.toNat / 256 := by
  have := v.isLt
  rw [highOctet, BitVec.extractLsb'_toNat, Nat.shiftRight_eq_div_pow]
  omega

theorem lowOctet_toNat (v : Word16) : (lowOctet v).toNat = v.toNat % 256 := by
  rw [lowOctet, BitVec.extractLsb'_toNat, Nat.shiftRight_zero]

theorem highOctet_ofNat {n : Nat} (h : n < 65536) : highOctet (BitVec.ofNat 16 n) = BitVec.ofNat 8 (n / 256) := by
  apply BitVec.eq_of_toNat_eq
  rw [highOctet_toNat, BitVec.toNat_ofNat, BitVec.toNat_ofNat]
  omega

theorem lowOctet_ofNat (n : Nat) : lowOctet (BitVec.ofNat 16 n) = BitVec.ofNat 8 (n % 256) := by
  apply BitVec.eq_of_toNat_eq
  rw [lowOctet_toNat, BitVec.toNat_ofNat, BitVec.toNat_ofNat]
  omega

/-- Settles O10: the length's octets are its quotient and remainder by 256. -/
theorem encodedFrameShape : Obligations.EncodedFrameShape := by
  refine ⟨fun t d s data hl => ?_, by decide⟩
  intro lh ll hc c
  have hshape : encodeFrame t d s data = [0x55, 0xFF, t, d, s, lh, ll, hc] ++ encodeData data := by
    rw [encodeFrame, highOctet_ofNat (by omega), lowOctet_ofNat]
    rfl
  refine ⟨fun h => ?_, fun h => ?_, fun h => ?_⟩
  · rw [hshape, h]
    rfl
  · rw [hshape, encodeData_of_ne_nil h, List.append_assoc]
    rfl
  · rw [encodeFrame_length (by rintro rfl; cases h), h]

/-! ## What is detected -/

section
variable {α β : Type} {f : α → β → α} (hacc : ∀ b, Function.Injective (f · b))
include hacc

/-- A fold whose step loses nothing of the accumulator loses nothing of it. -/
theorem foldl_injective (l : List β) : Function.Injective (l.foldl f) := by
  induction l with
  | nil => exact Function.injective_id
  | cons b l ih => exact ih.comp (hacc b)

/-- If it loses nothing of what is folded in either, one element changed changes the fold. -/
theorem foldl_set_ne (hel : ∀ a, Function.Injective (f a)) {l : List β} {i : Nat} {v : β} (h : i < l.length)
    (hv : v ≠ l[i]) (a : α) : (l.set i v).foldl f a ≠ l.foldl f a := by
  induction l generalizing i a with
  | nil => exact absurd h (Nat.not_lt_zero i)
  | cons b l ih =>
    cases i with
    | zero => exact fun he => hv (hel a (foldl_injective hacc l he))
    | succ i => exact ih (Nat.lt_of_succ_lt_succ h) hv (f a b)

end

theorem hFold_eq_foldl (acc : Octet) (bs : List Octet) : hFold acc bs = bs.foldl (fun a b => hUpdate b a) acc := by
  induction bs generalizing acc with
  | nil => rfl
  | cons b bs ih => exact ih _

theorem dFold_eq_foldl (acc : Word16) (bs : List Octet) : dFold acc bs = bs.foldl (fun a b => dUpdate b a) acc := by
  induction bs generalizing acc with
  | nil => rfl
  | cons b bs ih => exact ih _

/-- Settles O9: neither update loses anything of accumulator or octet, so one octet changed changes the residue. -/
theorem singleOctetChangeDetected : Obligations.SingleOctetChangeDetected := by
  refine ⟨fun header i v _ h hv hgood hbad => ?_, fun body i v h hv hgood hbad => ?_⟩
  · rw [← hgood, hFold_eq_foldl, hFold_eq_foldl] at hbad
    exact foldl_set_ne hUpdate_injective_acc hUpdate_injective_octet h hv _ hbad
  · rw [← hgood, dFold_eq_foldl, dFold_eq_foldl] at hbad
    exact foldl_set_ne dUpdate_injective_acc dUpdate_injective_octet h hv _ hbad

end Sys2Proof.Machine
end

section
/-! PROOFS. Streams received (41_receive_fsm.md): a header octet by its position, an encoded frame octet by octet from
Idle, and a stream that holds no preamble. -/

namespace Sys2Proof.Machine
open Sys2Proof.Statements

/-! ## The first five header octets (41_receive_fsm.md R107) -/

/-- The length's two octets, as the statements write them. -/
theorem join_lowOctet (v : Octet) (l : Word16) : v ++ lowOctet l = BitVec.ofNat 16 (v.toNat * 256 + l.toNat % 256) := by
  rw [← lowOctet_toNat, ← toNat_join, BitVec.ofNat_toNat, BitVec.setWidth_eq]

theorem highOctet_join (v : Octet) (l : Word16) :
    highOctet l ++ v = BitVec.ofNat 16 (l.toNat / 256 * 256 + v.toNat) := by
  rw [← highOctet_toNat, ← toNat_join, BitVec.ofNat_toNat, BitVec.setWidth_eq]

/-- The store of a header octet, with the field it goes to. -/
theorem storeHeader_of_lt {v : Octet} {s : State} (h : s.rxIndex.toNat < 5) :
    storeHeader v s =
      { s with
        rxType := if s.rxIndex = 0 then v else s.rxType
        rxDest := if s.rxIndex = 1 then v else s.rxDest
        rxSrc := if s.rxIndex = 2 then v else s.rxSrc
        rxLen :=
          if s.rxIndex = 3 then v ++ lowOctet s.rxLen
          else if s.rxIndex = 4 then highOctet s.rxLen ++ v
          else s.rxLen } := by
  obtain ⟨n, hn⟩ : ∃ n : Fin 5, s.rxIndex = BitVec.ofNat 10 n := ⟨⟨_, h⟩, by simp⟩
  unfold storeHeader
  rw [hn]
  fin_cases n <;> rfl

/-- Before the sixth header octet, the octet is folded and stored, and HeaderCrc does not run. -/
theorem headerByte_of_lt {v : Octet} {s : State} (h : s.rxIndex.toNat < 5) :
    headerByte v s = { storeHeader v { s with rxHcrc := hUpdate v s.rxHcrc } with rxIndex := s.rxIndex + 1 } := by
  have hne : s.rxIndex + 1 ≠ 6 := by bv_omega
  unfold headerByte
  simp only [storeHeader_rxIndex, satInc10_of_lt (show s.rxIndex.toNat < 0x3FF by omega)]
  exact if_neg hne

theorem exec_rxByte_header {v : Octet} {s : State} (hr : s.rxState = .header) (ht : InTime s) :
    exec (.rxByte v) s = .next (headerByte v (activityPhase s)) :=
  (exec_rxByte_of_no_timeout (timeoutPhase_of_inTime ht)).trans (receiveByte_header hr)

theorem exec_rxByte_header_of_lt {v : Octet} {s : State} (hr : s.rxState = .header) (ht : InTime s)
    (hi : s.rxIndex.toNat < 5) :
    exec (.rxByte v) s =
      .next { s with
        silence := 0
        eventCount := satInc8 s.eventCount
        rxHcrc := hUpdate v s.rxHcrc
        rxIndex := s.rxIndex + 1
        rxType := if s.rxIndex = 0 then v else s.rxType
        rxDest := if s.rxIndex = 1 then v else s.rxDest
        rxSrc := if s.rxIndex = 2 then v else s.rxSrc
        rxLen :=
          if s.rxIndex = 3 then v ++ lowOctet s.rxLen
          else if s.rxIndex = 4 then highOctet s.rxLen ++ v
          else s.rxLen } := by
  rw [exec_rxByte_header hr ht, headerByte_of_lt (s := activityPhase s) hi, storeHeader_of_lt (by exact hi)]
  rfl

/-- Settles O13: the octet's position says which field it is stored in. -/
theorem headerOctetStored : Obligations.HeaderOctetStored := by
  intro s v hr ht hi
  rw [exec_rxByte_header_of_lt hr ht hi, join_lowOctet, highOctet_join]

/-! ## An encoded frame, octet by octet -/

/-- Right after an octet no timeout holds. -/
theorem inTime_of_silence {s : State} (h : s.silence = 0) : InTime s := by
  rw [InTime, h, BitVec.le_def]
  exact Nat.zero_le _

/-- A stream is received octet by octet. -/
theorem receiveOctets_cons_next {o : Octet} {os : List Octet} {s t : State} (h : exec (.rxByte o) s = .next t) :
    receiveOctets (o :: os) s = receiveOctets os t := by
  rw [receiveOctets_cons, h, andThen_next]

/-- The receiver in Header, right after an octet: the octets heard, the accumulator, how many header octets were taken,
and the header fields as they stand. Everything else is as in `s`. -/
def headerStage (s : State) (e acc : Octet) (i : BitVec 10) (t d src : Octet) (len : Word16) : State :=
  { s with
    rxState := .header, silence := 0, eventCount := e, rxHcrc := acc, rxIndex := i
    rxType := t, rxDest := d, rxSrc := src, rxLen := len }

/-- From Idle the preamble opens a header (41_receive_fsm.md R101, R103). -/
theorem receiveOctets_preamble {s : State} (hr : s.rxState = .idle) (os : List Octet) :
    ∃ e, receiveOctets (preambleOne :: preambleTwo :: os) s =
      receiveOctets os (headerStage s e hInit 0 s.rxType s.rxDest s.rxSrc s.rxLen) := by
  have h1 := (idleOctetOrError s hr).1
  have h2 := (preambleOctetOrError { s with silence := 0, eventCount := satInc8 s.eventCount, rxState := .preamble } rfl
    (inTime_of_silence rfl)).1
  exact ⟨_, (receiveOctets_cons_next h1).trans (receiveOctets_cons_next h2)⟩

@[simp] theorem highOctet_append (a b : Octet) : highOctet (a ++ b) = a := by
  apply BitVec.eq_of_toNat_eq
  have := b.isLt
  rw [highOctet_toNat, toNat_join]
  omega

section
variable {s : State} {e acc t d src : Octet} {len : Word16} {i : BitVec 10}

/-- One of the header's first five octets. -/
theorem receiveOctets_headerStage (hi : i.toNat < 5) (v : Octet) (os : List Octet) :
    receiveOctets (v :: os) (headerStage s e acc i t d src len) =
      receiveOctets os
        (headerStage s (satInc8 e) (hUpdate v acc) (i + 1) (if i = 0 then v else t) (if i = 1 then v else d)
          (if i = 2 then v else src)
          (if i = 3 then v ++ lowOctet len else if i = 4 then highOctet len ++ v else len)) :=
  receiveOctets_cons_next (exec_rxByte_header_of_lt rfl (inTime_of_silence rfl) hi)

/-- The header's first five octets (41_receive_fsm.md R107). -/
theorem receiveOctets_header (t' d' src' lh ll : Octet) (os : List Octet) :
    ∃ e', receiveOctets (t' :: d' :: src' :: lh :: ll :: os) (headerStage s e acc 0 t d src len) =
      receiveOctets os (headerStage s e' (hFold acc [t', d', src', lh, ll]) 5 t' d' src' (lh ++ ll)) := by
  refine ⟨satInc8 (satInc8 (satInc8 (satInc8 (satInc8 e)))), ?_⟩
  simp [receiveOctets_headerStage]

end

/-- The receiver in Data, right after an octet: the octets heard, the accumulator, how many octets were taken, and the
buffer. Everything else is as in `s`. -/
def dataStage (s : State) (e : Octet) (acc : Word16) (i : BitVec 10) (m : Memory) : State :=
  { s with rxState := .data, silence := 0, eventCount := e, rxDcrc := acc, rxIndex := i, rxBuf := m }

section
variable {s : State} {e : Octet} {acc : Word16} {i : BitVec 10} {m : Memory} (hl : s.rxLen.toNat ≤ nMaxData)
include hl

/-- Payload octets, up to the length (41_receive_fsm.md R111). -/
theorem receiveOctets_payload {data : List Octet} (hi : i.toNat + data.length ≤ s.rxLen.toNat) (os : List Octet) :
    ∃ e', receiveOctets (data ++ os) (dataStage s e acc i m) =
      receiveOctets os
        (dataStage s e' (dFold acc data) (i + BitVec.ofNat 10 data.length) (m.writeAll i.toNat data)) := by
  induction data generalizing e acc i m with
  | nil => exact ⟨e, by simp [Memory.writeAll]⟩
  | cons v data ih =>
    rw [List.length_cons] at hi ⊢
    have hlt : i.toNat < s.rxLen.toNat := by omega
    have hinc : (i + 1).toNat = i.toNat + 1 := by unfold nMaxData at hl; bv_omega
    have h1 : exec (.rxByte v) (dataStage s e acc i m) =
        .next (dataStage s (satInc8 e) (dUpdate v acc) (i + 1) (m.write i.toNat v)) :=
      (exec_rxByte_data rfl (inTime_of_silence rfl)).trans
        (dataByte_payload (s := activityPhase (dataStage s e acc i m)) hl hlt)
    obtain ⟨e', h⟩ := ih (e := satInc8 e) (acc := dUpdate v acc) (i := i + 1) (m := m.write i.toNat v) (by omega)
    refine ⟨e', (receiveOctets_cons_next h1).trans (h.trans ?_)⟩
    rw [hinc, BitVec.add_assoc, BitVec.ofNat_add, BitVec.add_comm 1]
    rfl

/-- The two data-CRC octets, where they make the residue good, post Valid (41_receive_fsm.md R111, R113). -/
theorem receiveOctets_dataCrc {lo hi : Octet} (hi' : i.toNat = s.rxLen.toNat) (hgood : dFold acc [lo, hi] = dGood) :
    ∃ e' i', receiveOctets [lo, hi] (dataStage s e acc i m) =
      .next { postValid (dataStage s e' dGood i' m) with rxState := .idle } := by
  have hinc : (i + 1).toNat = i.toNat + 1 := by unfold nMaxData at hl; bv_omega
  have h1 : exec (.rxByte lo) (dataStage s e acc i m) =
      .next (dataStage s (satInc8 e) (dUpdate lo acc) (i + 1) m) :=
    (exec_rxByte_data rfl (inTime_of_silence rfl)).trans
      (dataByte_firstCrc (s := activityPhase (dataStage s e acc i m)) hl hi')
  have h2 : exec (.rxByte hi) (dataStage s (satInc8 e) (dUpdate lo acc) (i + 1) m) =
      .next (dataCrcPhase (dataStage s (satInc8 (satInc8 e)) (dUpdate hi (dUpdate lo acc)) (i + 1 + 1) m)) :=
    (exec_rxByte_data rfl (inTime_of_silence rfl)).trans
      (dataByte_secondCrc (s := activityPhase (dataStage s (satInc8 e) (dUpdate lo acc) (i + 1) m)) hl
        (hinc.trans (congrArg Nat.succ hi')))
  have hres : dUpdate hi (dUpdate lo acc) = dGood := hgood
  rw [hres, dataCrcPhase_good rfl] at h2
  exact ⟨_, _, (receiveOctets_cons_next h1).trans (receiveOctets_cons_next h2)⟩

end

/-- A payload with its data CRC, as encoded, posts Valid with the payload in the buffer. -/
theorem receiveOctets_encodeData {s : State} {data : List Octet} (hlen : s.rxLen.toNat = data.length)
    (hl : data.length ≤ nMaxData) (hnil : data ≠ []) (e : Octet) (m : Memory) :
    ∃ e' i, receiveOctets (encodeData data) (dataStage s e dInit 0 m) =
      .next { postValid (dataStage s e' dGood i (m.writeAll 0 data)) with rxState := .idle } := by
  have hl' : s.rxLen.toNat ≤ nMaxData := hlen ▸ hl
  have hcount : (0 + BitVec.ofNat 10 data.length).toNat = s.rxLen.toNat := by
    have hmod : data.length % 2 ^ 10 = data.length := Nat.mod_eq_of_lt (by unfold nMaxData at hl; omega)
    simpa [hlen] using hmod
  rw [encodeData_of_ne_nil hnil]
  obtain ⟨e', h⟩ := receiveOctets_payload (e := e) (acc := dInit) (i := 0) (m := m) (data := data) hl'
    (by simp [hlen]) _
  obtain ⟨e'', i, h'⟩ := receiveOctets_dataCrc hl' hcount (dFold_complement _)
  exact ⟨e'', i, h.trans h'⟩

/-! ## The whole frame (40_frame_codec.md R95) -/

/-- The length's octets, high then low, are the length. -/
theorem highOctet_append_lowOctet (v : Word16) : highOctet v ++ lowOctet v = v :=
  fields_extract_low (n := 8) (w := 8) (highOctet_toNat v).symm

/-- An encoded frame's header, up to its header CRC, leaves the receiver with the frame's header fields, about to take the
CRC octet. -/
theorem receiveOctets_encodeFrame {s : State} (hr : s.rxState = .idle) (t d src : Octet) (data : List Octet) :
    ∃ e acc, receiveOctets (encodeFrame t d src data) s =
      receiveOctets (~~~acc :: encodeData data)
        (headerStage s e acc 5 t d src (BitVec.ofNat 16 data.length)) := by
  obtain ⟨e, h⟩ := receiveOctets_preamble hr _
  obtain ⟨e', h'⟩ := receiveOctets_header (s := s) t d src _ _ _
  rw [highOctet_append_lowOctet] at h'
  exact ⟨e', _, h.trans h'⟩

section
variable {s : State} {e acc t d src : Octet} {len : Word16} (hd : d = s.cfg.ts ∨ d = 255)
include hd

/-- The header CRC of an empty frame for this station posts Valid (41_receive_fsm.md R110 (d)). -/
theorem exec_headerCrc_empty :
    exec (.rxByte (~~~acc)) (headerStage s e acc 5 t d src 0) =
      .next { postValid (headerStage s (satInc8 e) hGood 6 t d src 0) with rxState := .idle } := by
  have hgood : hUpdate (~~~acc) acc = hGood := hUpdate_eq_good_iff.2 rfl
  have hx := exec_rxByte_sixth (v := ~~~acc) (s := headerStage s e acc 5 t d src 0) rfl (inTime_of_silence rfl) rfl
  rw [headerCrcPhase_empty hgood hd rfl] at hx
  rw [hx, ← hgood]
  rfl

/-- The header CRC of a frame with a payload, for this station, opens Data (41_receive_fsm.md R110 (e)). -/
theorem exec_headerCrc_payload (hl : len.toNat ≤ nMaxData) (h0 : len ≠ 0) :
    exec (.rxByte (~~~acc)) (headerStage s e acc 5 t d src len) =
      .next (dataStage (headerStage s (satInc8 e) hGood 0 t d src len) (satInc8 e) dInit 0 s.rxBuf) := by
  have hgood : hUpdate (~~~acc) acc = hGood := hUpdate_eq_good_iff.2 rfl
  have hx := exec_rxByte_sixth (v := ~~~acc) (s := headerStage s e acc 5 t d src len) rfl (inTime_of_silence rfl) rfl
  rw [headerCrcPhase_payload hgood hd hl h0] at hx
  rw [hx, ← hgood]
  rfl

end

/-- Settles O21: the header and its CRC, then the payload and the data CRC, each part received in its own state. -/
theorem encodedFrameIsReceived : Obligations.EncodedFrameIsReceived := by
  intro s t d src data hr hwf hl hd
  obtain ⟨e, acc, hx⟩ := receiveOctets_encodeFrame hr t d src data
  rw [hx]
  by_cases hnil : data = []
  · subst hnil
    refine ⟨_, receiveOctets_cons_next (exec_headerCrc_empty hd), rfl, rfl, rfl, rfl, rfl, rfl, rfl, rfl, fun _ _ => rfl,
      rfl, rfl⟩
  · have hlen : (BitVec.ofNat 16 data.length).toNat = data.length := by
      rw [BitVec.toNat_ofNat]; omega
    have h0 : BitVec.ofNat 16 data.length ≠ 0 := fun h =>
      hnil (List.length_eq_zero_iff.1 (hlen.symm.trans (congrArg BitVec.toNat h)))
    obtain ⟨e', i, h⟩ := receiveOctets_encodeData
      (s := headerStage s (satInc8 e) hGood 0 t d src (BitVec.ofNat 16 data.length)) hlen hl hnil (satInc8 e) s.rxBuf
    rw [receiveOctets_cons_next (exec_headerCrc_payload hd (hlen.symm ▸ hl) h0)]
    refine ⟨_, h, rfl, rfl, rfl, rfl, rfl, rfl, hlen, Memory.octets_writeAll hl hwf,
      fun a ha => Memory.read_writeAll_above _ (by omega), rfl, rfl⟩

/-! ## A stream without a preamble -/

/-- The detectors, STATUS and the result latch are the same in both states: no result was posted. -/
structure NothingPosted (s t : State) : Prop where
  rvf : t.rvf = s.rvf
  rif : t.rif = s.rif
  status : t.status = s.status
  frType : t.frType = s.frType
  frDest : t.frDest = s.frDest
  frSrc : t.frSrc = s.frSrc
  frLen : t.frLen = s.frLen

theorem NothingPosted.refl (s : State) : NothingPosted s s := by
  constructor <;> rfl

theorem NothingPosted.trans {s t u : State} (h : NothingPosted s t) (h' : NothingPosted t u) : NothingPosted s u :=
  ⟨h'.rvf.trans h.rvf, h'.rif.trans h.rif, h'.status.trans h.status, h'.frType.trans h.frType,
    h'.frDest.trans h.frDest, h'.frSrc.trans h.frSrc, h'.frLen.trans h.frLen⟩

/-- The receiver is outside a frame after an octet `last`: in Idle, or in Preamble, in time, on a 0x55. -/
def OutsideFrame (last : Option Octet) (s : State) : Prop :=
  s.rxState = .idle ∨ (s.rxState = .preamble ∧ InTime s ∧ last = some 0x55)

/-- Outside a frame an octet posts nothing, and only 0xFF right after 0x55 leads into one (41_receive_fsm.md R117). -/
theorem exec_rxByte_outsideFrame {v : Octet} {last : Option Octet} {s : State} (h : OutsideFrame last s)
    (hv : last = some 0x55 → v ≠ 0xFF) :
    ∃ t, exec (.rxByte v) s = .next t ∧ OutsideFrame (some v) t ∧ NothingPosted s t := by
  obtain hr | ⟨hr, ht, hlast⟩ := h
  · refine ⟨_, exec_rxByte_idle hr, ?_, by constructor <;> simp⟩
    by_cases h55 : v = preambleOne
    · exact .inr ⟨by simp [idleByte, h55], inTime_of_silence (by simp), congrArg some h55⟩
    · exact .inl (by simpa [idleByte_other h55] using hr)
  · refine ⟨_, exec_rxByte_preamble hr ht, ?_, by constructor <;> simp⟩
    have hff : v ≠ preambleTwo := hv hlast
    by_cases h55 : v = preambleOne
    · subst h55
      exact .inr ⟨hr, inTime_of_silence rfl, rfl⟩
    · exact .inl (by rw [preambleByte_other h55 hff])

theorem noPreamble_of_append {as bs : List Octet} (h : NoPreamble (as ++ bs)) : NoPreamble as :=
  fun pre post he => h pre (post ++ bs) (by simp [he])

theorem noPreamble_ne_of_last {as : List Octet} {v : Octet} (h : NoPreamble (as ++ [v]))
    (hlast : as.getLast? = some 0x55) : v ≠ 0xFF := by
  rintro rfl
  obtain ⟨pre, rfl⟩ := List.getLast?_eq_some_iff.1 hlast
  exact h pre [] (by simp)

/-- A stream without a preamble leaves the receiver outside a frame, octet after octet. -/
theorem receiveOctets_outsideFrame {s : State} (hr : s.rxState = .idle) {os : List Octet} (hos : NoPreamble os) :
    ∃ t, receiveOctets os s = .next t ∧ OutsideFrame os.getLast? t ∧ NothingPosted s t := by
  induction os using List.reverseRecOn with
  | nil => exact ⟨s, rfl, .inl hr, .refl s⟩
  | append_singleton as v ih =>
    obtain ⟨t, ht, hout, hnp⟩ := ih (noPreamble_of_append hos)
    obtain ⟨u, hu, hout', hnp'⟩ := exec_rxByte_outsideFrame hout (noPreamble_ne_of_last hos)
    refine ⟨u, ?_, by simpa using hout', hnp.trans hnp'⟩
    rw [receiveOctets_append, ht, andThen_next, receiveOctets_cons_next hu, receiveOctets_nil]

/-- Settles O22: no octet of such a stream leads into a frame. -/
theorem noPreambleNoFrame : Obligations.NoPreambleNoFrame := by
  intro os s hr hos
  obtain ⟨t, ht, hout, k⟩ := receiveOctets_outsideFrame hr hos
  exact ⟨t, ht, hout.imp_right fun ⟨h, _, hl⟩ => ⟨h, hl⟩, k.rvf, k.rif, k.status, k.frType, k.frDest, k.frSrc, k.frLen⟩

end Sys2Proof.Machine
end

section
/-! PROOFS. What the token machine may write and emit (42_token_fsm.md section 1, 10_state.md R35), where it consumes a
posted result (R177), and the frame-type rows. -/

namespace Sys2Proof.Machine
open Sys2Proof.Statements

/-! ## A frame taken, state by state (42_token_fsm.md R134, R147, R165) -/

section
variable {s : State} {ty : Octet}

theorem frameAction_idle (h : s.tkState = .idle) : frameAction ty s = idleFrame ty s := by rw [frameAction, h]

theorem frameAction_waitForReply (h : s.tkState = .waitForReply) : frameAction ty s = waitFrame ty s := by
  rw [frameAction, h]

theorem frameAction_pollForMaster (h : s.tkState = .pollForMaster) : frameAction ty s = pollFrame ty s := by
  rw [frameAction, h]

end

/-! ## What the token machine writes -/

/-- `s` with the registers the token machine may write, and the events, as in `u`. -/
def State.withTokenWrites (s u : State) : State :=
  { s with
    rvf := u.rvf, rif := u.rif, tkState := u.tkState, ns := u.ns, ps := u.ps, soleMaster := u.soleMaster
    tokenCount := u.tokenCount, frameCount := u.frameCount, retryCount := u.retryCount, eventCount := u.eventCount
    reqSrc := u.reqSrc, reqType := u.reqType, waitType := u.waitType, silence := u.silence
    replyTimer := u.replyTimer, txqValid := u.txqValid, rplValid := u.rplValid, events := u.events }

/-- From `s` to `t` only registers of the token machine were written, and of the four flags that others raise none was
raised (10_state.md R35). -/
structure TokenWritesOnly (s t : State) : Prop where
  others : t = s.withTokenWrites t
  rvf : t.rvf = true → s.rvf = true
  rif : t.rif = true → s.rif = true
  txqValid : t.txqValid = true → s.txqValid = true
  rplValid : t.rplValid = true → s.rplValid = true

theorem TokenWritesOnly.refl (s : State) : TokenWritesOnly s s := ⟨rfl, id, id, id, id⟩

/-- What does not read a register of the token machine reads the same. -/
theorem TokenWritesOnly.kept {s t : State} {α : Type} (h : TokenWritesOnly s t) (f : State → α)
    (hf : f (s.withTokenWrites t) = f s := by rfl) : f t = f s :=
  (congrArg f h.others).trans hf

section
variable {s t : State} {ty : Octet}

theorem indicate_writesOnly (h : indicate ty s = .next t) : TokenWritesOnly s t := by
  obtain ⟨-, rfl⟩ := indicate_next h
  exact ⟨rfl, id, id, id, id⟩

theorem idleBroadcast_writesOnly (h : idleBroadcast ty s = .next t) : TokenWritesOnly s t := by
  unfold idleBroadcast at h
  split at h
  · exact indicate_writesOnly h
  · cases h; exact .refl s

theorem idleDirected_writesOnly (h : idleDirected ty s = .next t) : TokenWritesOnly s t := by
  by_cases ha : AnsweredInIdle ty
  · obtain rfl | rfl | rfl | rfl := ha
    · cases h; exact ⟨rfl, id, id, id, id⟩
    · cases h; exact ⟨rfl, id, id, id, id⟩
    · cases h; exact ⟨rfl, id, id, id, id⟩
    · obtain ⟨-, rfl⟩ := indicate_next h; exact ⟨rfl, id, id, id, id⟩
  · exact idleBroadcast_writesOnly (idleDirected_other ha ▸ h)

/-- Writes after RVF was cleared are writes. -/
theorem TokenWritesOnly.of_rvf_cleared (h : TokenWritesOnly { s with rvf := false } t) : TokenWritesOnly s t :=
  ⟨h.others, fun hv => absurd (h.rvf hv) Bool.false_ne_true, h.rif, h.txqValid, h.rplValid⟩

theorem idleFrame_writesOnly (h : idleFrame ty s = .next t) : TokenWritesOnly s t := by
  unfold idleFrame at h
  split at h
  · exact (idleDirected_writesOnly h).of_rvf_cleared
  split at h
  · exact (idleBroadcast_writesOnly h).of_rvf_cleared
  · cases h; exact ⟨rfl, nofun, id, id, id⟩

theorem waitFrame_writesOnly (h : waitFrame ty s = .next t) : TokenWritesOnly s t := by
  unfold waitFrame at h
  split at h
  · obtain ⟨-, rfl⟩ := indicate_next h; exact ⟨rfl, nofun, id, id, id⟩
  split at h
  · cases h; exact ⟨rfl, nofun, id, id, id⟩
  · cases h; exact ⟨rfl, nofun, id, id, id⟩

theorem pollFrame_writesOnly (h : pollFrame ty s = .next t) : TokenWritesOnly s t := by
  unfold pollFrame at h
  split at h
  · cases h; exact ⟨rfl, nofun, id, id, id⟩
  · cases h; exact ⟨rfl, nofun, id, id, id⟩

/-- A frame taken, in whatever state takes it. -/
theorem frameAction_writesOnly (h : frameAction ty s = .next t) : TokenWritesOnly s t := by
  unfold frameAction at h
  cases hs : s.tkState <;> simp only [hs] at h
  case idle => exact idleFrame_writesOnly h
  case waitForReply => exact waitFrame_writesOnly h
  case pollForMaster => exact pollFrame_writesOnly h
  all_goals cases h; exact .refl s

theorem idleStep_writesOnly (h : idleStep s = .next t) : TokenWritesOnly s t := by
  unfold idleStep at h
  split at h
  · cases h; exact ⟨rfl, id, id, id, id⟩
  split at h
  · cases h; exact ⟨rfl, id, nofun, id, id⟩
  split at h
  · exact idleFrame_writesOnly h
  · cases h; exact .refl s

theorem useTokenStep_writesOnly (h : useTokenStep s = .next t) : TokenWritesOnly s t := by
  unfold useTokenStep at h
  split at h
  · cases h; exact ⟨rfl, id, id, id, id⟩
  · obtain ⟨-, h⟩ := withOctets_next h
    split at h
    · cases h; exact ⟨rfl, id, id, nofun, id⟩
    · cases h; exact ⟨rfl, id, id, nofun, id⟩

theorem waitStep_writesOnly (h : waitStep s = .next t) : TokenWritesOnly s t := by
  unfold waitStep at h
  split at h
  · cases h; exact ⟨rfl, id, id, id, id⟩
  split at h
  · cases h; exact ⟨rfl, id, nofun, id, id⟩
  split at h
  · exact waitFrame_writesOnly h
  · cases h; exact .refl s

theorem doneStep_writesOnly (s : State) : TokenWritesOnly s (doneStep s) := by
  unfold doneStep
  (repeat' split) <;> exact ⟨rfl, id, id, id, id⟩

theorem passStep_writesOnly (s : State) : TokenWritesOnly s (passStep s) := by
  unfold passStep
  (repeat' split) <;> exact ⟨rfl, id, id, id, id⟩

theorem noTokenStep_writesOnly (s : State) : TokenWritesOnly s (noTokenStep s) := by
  unfold noTokenStep
  (repeat' split) <;> exact ⟨rfl, id, id, id, id⟩

/-- Without a timeout nothing is written; every other branch clears RIF (42_token_fsm.md R167 to R171). -/
theorem pollUnanswered_writesOnly (s : State) : TokenWritesOnly s (pollUnanswered s) := by
  unfold pollUnanswered
  split
  · exact .refl s
  · (repeat' split) <;> exact ⟨rfl, id, nofun, id, id⟩

theorem pollStep_writesOnly (h : pollStep s = .next t) : TokenWritesOnly s t := by
  unfold pollStep at h
  split at h
  · exact pollFrame_writesOnly h
  · cases h; exact pollUnanswered_writesOnly s

theorem answerStep_writesOnly (h : answerStep s = .next t) : TokenWritesOnly s t := by
  unfold answerStep at h
  split at h
  · obtain ⟨-, h⟩ := withOctets_next h; cases h; exact ⟨rfl, id, id, id, id⟩
  split at h
  · obtain ⟨-, h⟩ := withOctets_next h; cases h; exact ⟨rfl, id, id, id, nofun⟩
  split at h
  · cases h; exact ⟨rfl, id, id, id, nofun⟩
  · cases h; exact .refl s

theorem execMasterStep_writesOnly (h : execMasterStep s = .next t) : TokenWritesOnly s t := by
  unfold execMasterStep at h
  cases hs : s.tkState <;> simp only [hs] at h
  case initial => cases h; exact ⟨rfl, nofun, nofun, id, id⟩
  case idle => exact idleStep_writesOnly h
  case useToken => exact useTokenStep_writesOnly h
  case waitForReply => exact waitStep_writesOnly h
  case doneWithToken => cases h; exact doneStep_writesOnly s
  case passToken => cases h; exact passStep_writesOnly s
  case noToken => cases h; exact noTokenStep_writesOnly s
  case pollForMaster => exact pollStep_writesOnly h
  case answerDataRequest => exact answerStep_writesOnly h
  case unused => cases h; exact .refl s

theorem takeFrame_writesOnly (h : takeFrame ty s = .next t) : TokenWritesOnly s t := by
  obtain rfl | ⟨-, ha⟩ := takeFrame_next h
  · exact .refl _
  · exact frameAction_writesOnly ha

end

/-- A frame type's instruction takes the frame of that type. -/
theorem exec_frameInstr (ty : Octet) (s : State) : exec (frameInstr ty) s = takeFrame ty s := exec_decodeFrameType ty s

/-- Settles O52: every branch of the token machine writes its own registers only, and raises no flag. -/
theorem tokenMachineFrame : Obligations.TokenMachineFrame := by
  intro i s t hi h
  have hw : TokenWritesOnly s t := by
    obtain rfl | ⟨ty, rfl⟩ := hi
    · exact execMasterStep_writesOnly h
    · exact takeFrame_writesOnly (exec_frameInstr ty s ▸ h)
  exact ⟨hw.kept (·.cfg), hw.kept (·.rxState), hw.kept (·.rxIndex), hw.kept (·.rxHcrc), hw.kept (·.rxDcrc),
    hw.kept (·.rxType), hw.kept (·.rxDest), hw.kept (·.rxSrc), hw.kept (·.rxLen), fun a => hw.kept (·.rxBuf.read a),
    hw.kept (·.frType), hw.kept (·.frDest), hw.kept (·.frSrc), hw.kept (·.frLen), hw.kept (·.txqType),
    hw.kept (·.txqDest), hw.kept (·.txqLen), fun a => hw.kept (·.txqData.read a), hw.kept (·.rplType),
    hw.kept (·.rplLen), fun a => hw.kept (·.rplData.read a), hw.kept (·.status), hw.kept (·.inputs), hw.rvf, hw.rif,
    hw.txqValid, hw.rplValid⟩

/-! ## What it emits (42_token_fsm.md R127) -/

/-- Only a frame-type row is encoded as a frame's octet, and it is the row that octet decodes to. -/
theorem eq_frameInstr_of_encode {i : Instr} {ty : Octet} (h : encode i = .frameType ty) : i = frameInstr ty := by
  have hwf : i.wf = true := by
    cases i with
    | rxNone | rxByte | rxError | tick | masterStep | txQueue | reply | reservedOp7 | reservedOp8F | malformed => cases h
    | ftToken | ftPfm | ftRpfm | ftTreq | ftTrsp | ftDer | ftDner | ftRp
    | ftReserved08 | ftReserved10 | ftReserved20 | ftReserved40 | ftProprietary => rfl
  have hd := decodeInvertsEncode i hwf
  rw [h] at hd
  exact (Except.ok.inj hd).symm

section
variable {s t : State}

theorem execTxQueue_events {d : Descriptor} (h : execTxQueue d s = .next t) : t.events = s.events := by
  unfold execTxQueue at h
  split at h
  · cases h; rfl
  · cases h; rfl

theorem execReply_events {d : Descriptor} (h : execReply d s = .next t) : t.events = s.events := by
  unfold execReply at h
  split at h
  · cases h; rfl
  · cases h; rfl

/-- Nothing emitted, or one Send or Indicate. -/
theorem TimersFollow.events (h : TimersFollow s t) :
    t.events = s.events ∨ (∃ ty d data, t.events = sent s ty d data) ∨ ∃ ty, t.events = indicated s ty := by
  obtain ⟨⟨-, he | he⟩ | ⟨-, he⟩, -⟩ := h
  · exact .inl he
  · exact .inr (.inr he)
  · exact .inr (.inl he)

/-- Settles O51: what follows the rule on `silence` emits one frame at most, and nothing but MASTER_STEP and the frame
rows emits any. -/
theorem atMostOneEvent : Obligations.AtMostOneEvent := by
  intro i s t h
  cases i with
  | rxNone => exact .inl (execRxNone_keepsHostRegs h).events
  | rxByte v => exact .inl (execRxByte_keepsHostRegs h).events
  | rxError => exact .inl (execRxError_keepsHostRegs h).events
  | tick | reservedOp7 | reservedOp8F | malformed => cases h; exact .inl rfl
  | masterStep => exact (execMasterStep_timersFollow h).events.imp_right fun he => ⟨.inl rfl, he⟩
  | txQueue d => exact .inl (execTxQueue_events h)
  | reply d => exact .inl (execReply_events h)
  | ftToken | ftPfm | ftRpfm | ftTreq | ftTrsp | ftDer | ftDner | ftRp
  | ftReserved08 | ftReserved10 | ftReserved20 | ftReserved40 | ftProprietary =>
    exact (takeFrame_timersFollow h).events.imp_right fun he => ⟨.inr ⟨_, eq_frameInstr_of_encode rfl⟩, he⟩

end

/-! ## Where a posted result is consumed (42_token_fsm.md R177) -/

/-- A MASTER_STEP in this state takes a posted invalid frame: `RIF` is 1, the state is one that consumes it, and no
earlier branch of the state holds. -/
def takesInvalid (s : State) : Bool :=
  s.rif && match s.tkState with
    | .idle => !tokenLost s
    | .waitForReply => !replyTimedOut s
    | .pollForMaster => !s.rvf
    | .initial | .useToken | .doneWithToken | .passToken | .noToken | .answerDataRequest | .unused _ => false

theorem takesInvalid_iff (s : State) :
    takesInvalid s = true ↔ s.rif = true ∧
      ((s.tkState = .idle ∧ s.silence < s.cfg.tNoToken) ∨ (s.tkState = .waitForReply ∧ s.silence < s.cfg.tReplyTimeout) ∨
        (s.tkState = .pollForMaster ∧ s.rvf = false)) := by
  unfold takesInvalid
  cases hs : s.tkState <;> simp [tokenLost, replyTimedOut]

/-- Both detectors are as before, but for one whose result the step takes. -/
def ConsumesTaken (s t : State) : Prop :=
  t.rvf = (s.rvf && !takesFrame s) ∧ t.rif = (s.rif && !takesInvalid s)

section
variable {s t : State} {ty : Octet}

theorem indicate_detectors (h : indicate ty s = .next t) : t.rvf = s.rvf ∧ t.rif = s.rif := by
  obtain ⟨-, rfl⟩ := indicate_next h
  exact ⟨rfl, rfl⟩

theorem idleBroadcast_detectors (h : idleBroadcast ty s = .next t) : t.rvf = s.rvf ∧ t.rif = s.rif := by
  unfold idleBroadcast at h
  split at h
  · exact indicate_detectors h
  · cases h; exact ⟨rfl, rfl⟩

theorem idleDirected_detectors (h : idleDirected ty s = .next t) : t.rvf = s.rvf ∧ t.rif = s.rif := by
  by_cases ha : AnsweredInIdle ty
  · obtain rfl | rfl | rfl | rfl := ha
    · cases h; exact ⟨rfl, rfl⟩
    · cases h; exact ⟨rfl, rfl⟩
    · cases h; exact ⟨rfl, rfl⟩
    · obtain ⟨-, rfl⟩ := indicate_next h; exact ⟨rfl, rfl⟩
  · exact idleBroadcast_detectors (idleDirected_other ha ▸ h)

theorem idleFrame_detectors (h : idleFrame ty s = .next t) : t.rvf = false ∧ t.rif = s.rif := by
  unfold idleFrame at h
  split at h
  · exact idleDirected_detectors h
  split at h
  · exact idleBroadcast_detectors h
  · cases h; exact ⟨rfl, rfl⟩

theorem waitFrame_detectors (h : waitFrame ty s = .next t) : t.rvf = false ∧ t.rif = s.rif := by
  unfold waitFrame at h
  split at h
  · exact indicate_detectors h
  split at h
  · cases h; exact ⟨rfl, rfl⟩
  · cases h; exact ⟨rfl, rfl⟩

theorem pollFrame_detectors (h : pollFrame ty s = .next t) : t.rvf = false ∧ t.rif = s.rif := by
  unfold pollFrame at h
  split at h
  · cases h; exact ⟨rfl, rfl⟩
  · cases h; exact ⟨rfl, rfl⟩

/-- A frame taken clears RVF and leaves RIF, whatever it is. -/
theorem frameAction_detectors (hf : takesFrame s = true) (h : frameAction ty s = .next t) :
    t.rvf = false ∧ t.rif = s.rif := by
  obtain ⟨hs, -⟩ | ⟨hs, -⟩ | ⟨hs, -⟩ := (takesFrame_iff s).1 hf
  · exact idleFrame_detectors (frameAction_idle hs ▸ h)
  · exact waitFrame_detectors (frameAction_waitForReply hs ▸ h)
  · exact pollFrame_detectors (frameAction_pollForMaster hs ▸ h)

theorem useTokenStep_detectors (h : useTokenStep s = .next t) : t.rvf = s.rvf ∧ t.rif = s.rif := by
  unfold useTokenStep at h
  split at h
  · cases h; exact ⟨rfl, rfl⟩
  · obtain ⟨-, h⟩ := withOctets_next h
    split at h
    · cases h; exact ⟨rfl, rfl⟩
    · cases h; exact ⟨rfl, rfl⟩

theorem answerStep_detectors (h : answerStep s = .next t) : t.rvf = s.rvf ∧ t.rif = s.rif := by
  unfold answerStep at h
  split at h
  · obtain ⟨-, h⟩ := withOctets_next h; cases h; exact ⟨rfl, rfl⟩
  split at h
  · obtain ⟨-, h⟩ := withOctets_next h; cases h; exact ⟨rfl, rfl⟩
  split at h
  · cases h; exact ⟨rfl, rfl⟩
  · cases h; exact ⟨rfl, rfl⟩

/-- Idle takes an invalid result only where the token is not presumed lost. -/
theorem idleStep_detectors (hs : s.tkState = .idle) (hf : takesFrame s = false) (h : idleStep s = .next t) :
    t.rvf = s.rvf ∧ t.rif = (s.rif && !takesInvalid s) := by
  unfold idleStep at h
  split at h
  next hl => cases h; simp [takesInvalid, hs, hl]
  next hl =>
    split at h
    next hi => cases h; simp [takesInvalid, hs, hl, hi]
    next hi =>
      split at h
      next hv => simp [takesFrame, hs, hl, hi, hv] at hf
      next => cases h; simp [hi]

/-- WaitForReply takes an invalid result only before the reply timeout. -/
theorem waitStep_detectors (hs : s.tkState = .waitForReply) (hf : takesFrame s = false) (h : waitStep s = .next t) :
    t.rvf = s.rvf ∧ t.rif = (s.rif && !takesInvalid s) := by
  unfold waitStep at h
  split at h
  next hl => cases h; simp [takesInvalid, hs, hl]
  next hl =>
    split at h
    next hi => cases h; simp [takesInvalid, hs, hl, hi]
    next hi =>
      split at h
      next hv => simp [takesFrame, hs, hl, hi, hv] at hf
      next => cases h; simp [hi]

/-- PollForMaster counts an invalid result as a timeout, and every timeout clears RIF (42_token_fsm.md section 9). -/
theorem pollUnanswered_rif (s : State) : (pollUnanswered s).rif = false := by
  unfold pollUnanswered
  split
  next hto =>
    obtain ⟨-, hi⟩ : usageTimedOut s = false ∧ s.rif = false := by simpa [pollTimedOut] using hto
    exact hi
  next => (repeat' split) <;> rfl

theorem pollStep_detectors (hs : s.tkState = .pollForMaster) (hf : takesFrame s = false) (h : pollStep s = .next t) :
    t.rvf = s.rvf ∧ t.rif = (s.rif && !takesInvalid s) := by
  have hv : s.rvf = false := by simpa [takesFrame, hs] using hf
  simp only [pollStep, hv, Bool.false_eq_true, if_false] at h
  cases h
  simp [pollUnanswered_rif, takesInvalid, hs, hv]

/-- Outside Initialize a MASTER_STEP clears each detector exactly where it takes what that detector reports. -/
theorem execMasterStep_consumesTaken (hs : s.tkState ≠ .initial) (h : execMasterStep s = .next t) : ConsumesTaken s t := by
  cases hf : takesFrame s with
  | true =>
    obtain ⟨hv, hi⟩ := frameAction_detectors hf (execMasterStep_of_takesFrame hf ▸ h)
    have hn : takesInvalid s = false := by
      obtain ⟨hk, -, hr, -⟩ | ⟨hk, -, hr, -⟩ | ⟨hk, hr⟩ := (takesFrame_iff s).1 hf <;> simp [takesInvalid, hk, hr]
    exact ⟨by simp [hv, hf], by simp [hi, hn]⟩
  | false =>
    have hkept (hno : takesInvalid s = false) (hk : t.rvf = s.rvf ∧ t.rif = s.rif) : ConsumesTaken s t :=
      ⟨by simp [hk.1, hf], by simp [hk.2, hno]⟩
    have htaken (hk : t.rvf = s.rvf ∧ t.rif = (s.rif && !takesInvalid s)) : ConsumesTaken s t :=
      ⟨by simp [hk.1, hf], hk.2⟩
    unfold execMasterStep at h
    cases hk : s.tkState <;> simp only [hk] at h
    case initial => exact absurd hk hs
    case idle => exact htaken (idleStep_detectors hk hf h)
    case useToken => exact hkept (by simp [takesInvalid, hk]) (useTokenStep_detectors h)
    case waitForReply => exact htaken (waitStep_detectors hk hf h)
    case doneWithToken => cases h; exact hkept (by simp [takesInvalid, hk]) (by simp)
    case passToken => cases h; exact hkept (by simp [takesInvalid, hk]) (by simp)
    case noToken => cases h; exact hkept (by simp [takesInvalid, hk]) (by simp)
    case pollForMaster => exact htaken (pollStep_detectors hk hf h)
    case answerDataRequest => exact hkept (by simp [takesInvalid, hk]) (answerStep_detectors h)
    case unused => cases h; exact hkept (by simp [takesInvalid, hk]) ⟨rfl, rfl⟩

end

/-- Settles O32: outside Initialize the two tests of R177 say which detector is cleared. -/
theorem detectorsConsumedByTable : Obligations.DetectorsConsumedByTable := by
  intro s t h
  rw [← takesFrame_iff, ← takesInvalid_iff]
  by_cases hs : s.tkState = .initial
  · have ht : .next (initializeStep s) = Host.Outcome.next t := (exec_masterStep_initial hs).symm.trans h
    cases ht
    refine ⟨fun _ => ⟨rfl, rfl⟩, fun _ => rfl, fun _ => rfl, fun hn => absurd hs hn, fun hn => absurd hs hn⟩
  · obtain ⟨hv, hi⟩ := execMasterStep_consumesTaken hs h
    exact ⟨fun hn => absurd hn hs, fun hf => by simp [hv, hf], fun hf => by simp [hi, hf],
      fun _ hf => by simp [hv, hf], fun _ hf => by simp [hi, hf]⟩

/-! ## The frame-type rows (log entry 6) -/

/-- `f` reads no frame type from the latch, and completes where the latched length is within the buffer. -/
def BlindToFrType (f : State → Host.Outcome State Fault Refusal) : Prop :=
  ∀ (s : State) (x : Octet), s.frLen.toNat ≤ nMaxData →
    ∃ u, f { s with frType := x } = .next u ∧ f s = .next { u with frType := s.frType }

theorem indicate_blindToFrType (ty : Octet) : BlindToFrType (indicate ty) :=
  fun _ _ hl => ⟨_, indicate_of_le hl, indicate_of_le hl⟩

theorem idleBroadcast_blindToFrType (ty : Octet) : BlindToFrType (idleBroadcast ty) := by
  intro s x hl
  unfold idleBroadcast
  split
  · exact indicate_blindToFrType ty s x hl
  · exact ⟨_, rfl, rfl⟩

theorem idleDirected_blindToFrType (ty : Octet) : BlindToFrType (idleDirected ty) := by
  intro s x hl
  by_cases ha : AnsweredInIdle ty
  · obtain rfl | rfl | rfl | rfl := ha
    · exact ⟨_, rfl, rfl⟩
    · exact ⟨_, rfl, rfl⟩
    · exact ⟨_, rfl, rfl⟩
    · exact indicate_blindToFrType 5
        { s with replyTimer := 0, reqSrc := s.frSrc, reqType := 5, tkState := .answerDataRequest } x hl
  · rw [idleDirected_other ha, idleDirected_other ha]
    exact idleBroadcast_blindToFrType ty s x hl

theorem idleFrame_blindToFrType (ty : Octet) : BlindToFrType (idleFrame ty) := by
  intro s x hl
  unfold idleFrame
  split
  · exact idleDirected_blindToFrType ty { s with rvf := false } x hl
  split
  · exact idleBroadcast_blindToFrType ty { s with rvf := false } x hl
  · exact ⟨_, rfl, rfl⟩

theorem waitFrame_blindToFrType (ty : Octet) : BlindToFrType (waitFrame ty) := by
  intro s x hl
  unfold waitFrame
  split
  · exact indicate_blindToFrType ty { s with rvf := false, tkState := .doneWithToken } x hl
  split
  · exact ⟨_, rfl, rfl⟩
  · exact ⟨_, rfl, rfl⟩

theorem pollFrame_blindToFrType (ty : Octet) : BlindToFrType (pollFrame ty) := by
  intro s x hl
  unfold pollFrame
  split
  · exact ⟨_, rfl, rfl⟩
  · exact ⟨_, rfl, rfl⟩

section
variable {s : State} {ty : Octet}

/-- Where a frame is taken, its action reads the type from its operand only. -/
theorem frameAction_next_of_frType (hf : takesFrame s = true) (hl : s.frLen.toNat ≤ nMaxData) (x : Octet) :
    ∃ u, frameAction ty { s with frType := x } = .next u ∧ frameAction ty s = .next { u with frType := s.frType } := by
  obtain ⟨hs, -⟩ | ⟨hs, -⟩ | ⟨hs, -⟩ := (takesFrame_iff s).1 hf
  · rw [frameAction_idle hs, frameAction_idle (s := { s with frType := x }) hs]
    exact idleFrame_blindToFrType ty s x hl
  · rw [frameAction_waitForReply hs, frameAction_waitForReply (s := { s with frType := x }) hs]
    exact waitFrame_blindToFrType ty s x hl
  · rw [frameAction_pollForMaster hs, frameAction_pollForMaster (s := { s with frType := x }) hs]
    exact pollFrame_blindToFrType ty s x hl

end

/-- Settles O33: a MASTER_STEP that takes the frame, and the frame's row, are the same action, which reads the type
from its operand only. -/
theorem frameRowActsAsMasterStep : Obligations.FrameRowActsAsMasterStep := by
  intro s ty hl
  rw [← takesFrame_iff, exec_frameInstr]
  refine ⟨fun hf => ?_, fun hf => takeFrame_of_not_takes (eq_false_of_ne_true hf)⟩
  rw [takeFrame_of_takes hf, exec_masterStep_of_takesFrame (s := { s with frType := ty }) hf]
  exact frameAction_next_of_frType hf hl ty

section
variable {s : State} (h : IdleTakes s) (hd : s.frDest = s.cfg.ts)
include h hd

/-- A row's frame, directed and taken in Idle, is dispatched on its type. -/
theorem takeFrame_directed (ty : Octet) : takeFrame ty s = idleDirected ty { s with rvf := false } := by
  rw [takeFrame_of_takes ((takesFrame_iff s).2 (.inl h)), frameAction_idle h.1, idleFrame_directed hd]

theorem takeFrame_delivered {ty : Octet} (ht : isDelivered ty = true) (hl : s.frLen.toNat ≤ nMaxData) :
    takeFrame ty s = .next { s with rvf := false, events := indicated s ty } := by
  rw [takeFrame_directed h hd, idleDirected_delivered ht]
  exact indicate_of_le hl

theorem takeFrame_discarded {ty : Octet} (ha : ¬AnsweredInIdle ty) (ht : ¬isDelivered ty = true) :
    takeFrame ty s = .next { s with rvf := false } := by
  rw [takeFrame_directed h hd, idleDirected_discarded ha ht]

/-- The reserved rows' frames are discarded (30_encoding.md R67). -/
theorem takeFrame_reserved {ty : Octet} (hlo : 8 ≤ ty.toNat) (hhi : ty.toNat < 128) :
    takeFrame ty s = .next { s with rvf := false } :=
  takeFrame_discarded h hd (by unfold AnsweredInIdle; bv_omega) (by rw [isDelivered_iff]; bv_omega)

end

/-- Settles O34: the row's octet says whether Idle answers, delivers or discards the frame. -/
theorem directedFrameRowsInIdle : Obligations.DirectedFrameRowsInIdle := by
  intro s h hd hl taken
  have hx := takeFrame_directed h hd
  refine ⟨(hx 0).trans idleDirected_token, (hx 1).trans idleDirected_poll,
    takeFrame_discarded h hd (by unfold AnsweredInIdle; decide) (by decide), (hx 3).trans idleDirected_testRequest,
    takeFrame_delivered h hd (by decide) hl, ?_, takeFrame_delivered h hd (by decide) hl,
    takeFrame_discarded h hd (by unfold AnsweredInIdle; decide) (by decide), fun k => ?_, fun k => ?_, fun k => ?_,
    fun k => ?_, fun k => ?_⟩
  · exact ((hx 5).trans idleDirected_dataRequest).trans (indicate_of_le hl)
  · have hk : (1#5 ++ k).toNat = 8 + k.toNat := toNat_fields _ k
    exact takeFrame_reserved h hd (by omega) (by omega)
  · have hk : (1#4 ++ k).toNat = 16 + k.toNat := toNat_fields _ k
    exact takeFrame_reserved h hd (by omega) (by omega)
  · have hk : (1#3 ++ k).toNat = 32 + k.toNat := toNat_fields _ k
    exact takeFrame_reserved h hd (by omega) (by omega)
  · have hk : (1#2 ++ k).toNat = 64 + k.toNat := toNat_fields _ k
    exact takeFrame_reserved h hd (by omega) (by omega)
  · have hk : (1#1 ++ k).toNat = 128 + k.toNat := toNat_fields _ k
    have heq : 1#1 ++ k = BitVec.ofNat 8 (128 + k.toNat) := by
      rw [← hk, BitVec.ofNat_toNat, BitVec.setWidth_eq]
    exact heq ▸ takeFrame_delivered h hd (isDelivered_iff.2 (.inr (.inr (by omega)))) hl

/-! ## UseToken -/

theorem exec_masterStep_useToken {s : State} (h : s.tkState = .useToken) : exec .masterStep s = useTokenStep s := by
  rw [exec, execMasterStep, h]

theorem expectsReply_iff {t : Octet} : expectsReply t = true ↔ t = 3 ∨ t = 5 := by
  simp [expectsReply]

/-- Settles O43: what is queued, and whether its type expects a reply, decide. -/
theorem useTokenBranches : Obligations.UseTokenBranches := by
  intro s hs hl data
  have hx := exec_masterStep_useToken hs
  refine ⟨fun hq => ?_, fun hq ht => ?_, fun hq ht => ?_⟩
  · rw [hx, useTokenStep, if_pos (by simp [hq])]
  · rw [hx, useTokenStep, if_neg (by simp [hq]), withOctets_of_le hl, if_pos (expectsReply_iff.2 ht)]
    rfl
  · rw [hx, useTokenStep, if_neg (by simp [hq]), withOctets_of_le hl, if_neg (expectsReply_iff.not.2 ht)]
    rfl

end Sys2Proof.Machine
end

section
/-! PROOFS. The step and the invariant (42_token_fsm.md section 11): a step runs the instruction its command decodes to,
every instruction completes from a good state, and every step leaves one. -/

namespace Sys2Proof.Machine
open Sys2Proof.Statements

/-! ## The parts of the invariant

The receiver writes none of the token machine's registers and the token machine none of the receiver's, so each part is
kept by all but a few instructions for the reason that they do not write what it reads. -/

/-- The result latch and the detectors. -/
structure LatchInv (s : State) : Prop where
  frLen : s.frLen.toNat ≤ nMaxData
  frDest : s.rvf = true → s.frDest = s.cfg.ts ∨ s.frDest = broadcast
  detectors : ¬(s.rvf = true ∧ s.rif = true)

/-- What the frame being received has passed so far (41_receive_fsm.md R109, R110). -/
structure FrameInv (s : State) : Prop where
  rxLen : s.rxState = .data → s.rxLen.toNat ≤ nMaxData
  headerIndex : s.rxState = .header → s.rxIndex.toNat ≤ 5
  dataIndex : s.rxState = .data → s.rxIndex.toNat < s.rxLen.toNat + 2 ∧ s.rxLen ≠ 0
  dataDest : s.rxState = .data → s.rxDest = s.cfg.ts ∨ s.rxDest = broadcast

/-- The receiver's part. -/
structure RxInv (s : State) : Prop where
  rxBuf : s.rxBuf.wf = true
  latch : LatchInv s
  frame : FrameInv s

/-- The transmit slot's part, and the reply slot's data. -/
structure SlotInv (s : State) : Prop where
  txqData : s.txqData.wf = true
  rplData : s.rplData.wf = true
  txqLen : s.txqLen.toNat ≤ nMaxData
  rplLen : s.rplLen.toNat ≤ nMaxData
  txqPending : s.txqValid = true →
    isQueueable s.txqType = true ∧ ¬(expectsReply s.txqType = true ∧ s.txqDest = broadcast)

/-- The configuration and the token machine's registers, whatever state it is in. -/
structure TokenRegsInv (s : State) : Prop where
  cfg : configLegal s.cfg = true
  frameCount : s.frameCount ≤ s.cfg.nMaxInfoFrames
  retryCount : s.retryCount ≤ s.cfg.nRetryToken
  ps : s.ps ≤ s.cfg.nMaxMaster
  soleMaster : s.soleMaster = true → s.ns = s.cfg.ts

/-- What holds in some states of the token machine only. -/
structure TokenStateInv (s : State) : Prop where
  named : s.tkState.named = true
  useToken : s.tkState = .useToken → s.frameCount < s.cfg.nMaxInfoFrames
  waitType : s.tkState = .waitForReply → s.waitType = 3 ∨ s.waitType = 5
  reqType : s.tkState = .answerDataRequest → s.reqType = 3 ∨ s.reqType = 5
  rplPending : s.rplValid = true → s.tkState = .answerDataRequest ∧ s.reqType = 5 ∧ isReplyType s.rplType = true

/-- The token machine's part. -/
structure TokenInv (s : State) : Prop where
  regs : TokenRegsInv s
  state : TokenStateInv s

theorem inv_iff (s : State) : Inv s ↔ RxInv s ∧ SlotInv s ∧ TokenInv s := by
  constructor
  · intro h
    exact ⟨⟨h.rxBuf, ⟨h.bounds.frLen, h.frDest, h.detectors⟩,
        ⟨h.bounds.rxLen, h.headerIndex, h.dataIndex, h.dataDest⟩⟩,
      ⟨h.txqData, h.rplData, h.bounds.txqLen, h.bounds.rplLen, h.txqPending⟩,
      ⟨⟨h.cfg, h.frameCount, h.retryCount, h.ps, h.soleMaster⟩,
        ⟨h.named, h.useToken, h.waitType, h.reqType, h.rplPending⟩⟩⟩
  · rintro ⟨⟨hbuf, hlatch, hframe⟩, hslot, hregs, hstate⟩
    exact {
      cfg := hregs.cfg, rxBuf := hbuf, txqData := hslot.txqData, rplData := hslot.rplData
      bounds := ⟨hlatch.frLen, hslot.txqLen, hslot.rplLen, hframe.rxLen⟩
      headerIndex := hframe.headerIndex, dataIndex := hframe.dataIndex, dataDest := hframe.dataDest
      frDest := hlatch.frDest, detectors := hlatch.detectors, named := hstate.named
      frameCount := hregs.frameCount, useToken := hstate.useToken, retryCount := hregs.retryCount, ps := hregs.ps
      soleMaster := hregs.soleMaster, waitType := hstate.waitType, reqType := hstate.reqType
      rplPending := hstate.rplPending, txqPending := hslot.txqPending }

/-! ## The receiver keeps its part -/

section
variable {s t : State} {v : Octet}

/-- Outside Header and Data nothing is asked of the frame being received. -/
theorem FrameInv.of_outside (h : s.rxState = .idle ∨ s.rxState = .preamble) : FrameInv s := by
  obtain h | h := h <;> constructor <;> simp [h]

theorem LatchInv.postInvalid (h : LatchInv s) : LatchInv (postInvalid s) :=
  ⟨h.frLen, nofun, nofun⟩

/-- A valid frame may be posted where its length is within the buffer and its destination is here. -/
theorem LatchInv.postValid (hl : s.rxLen.toNat ≤ nMaxData) (hd : s.rxDest = s.cfg.ts ∨ s.rxDest = broadcast) :
    LatchInv (postValid s) :=
  ⟨hl, fun _ => hd, nofun⟩

/-- Back to Idle, with or without a result posted. -/
theorem RxInv.toIdle (hb : s.rxBuf.wf = true) (hl : LatchInv s) : RxInv { s with rxState := .idle } :=
  ⟨hb, ⟨hl.frLen, hl.frDest, hl.detectors⟩, .of_outside (.inl rfl)⟩

theorem timeoutPhase_rxInv (h : RxInv s) : RxInv (timeoutPhase s) := by
  obtain ⟨-, e⟩ | ⟨-, -, e⟩ | ⟨-, -, e⟩ := timeoutPhase_cases s <;> rw [e]
  · exact h
  · exact .toIdle h.rxBuf h.latch
  · exact .toIdle (s := postInvalid s) h.rxBuf h.latch.postInvalid

/-- The activity phase writes nothing the receiver's part reads. -/
theorem activityPhase_rxInv (h : RxInv s) : RxInv (activityPhase s) :=
  ⟨h.rxBuf, ⟨h.latch.frLen, h.latch.frDest, h.latch.detectors⟩,
    ⟨h.frame.rxLen, h.frame.headerIndex, h.frame.dataIndex, h.frame.dataDest⟩⟩

theorem receiveError_rxInv (h : RxInv s) : RxInv (receiveError s) := by
  unfold receiveError
  split
  · exact h
  · exact .toIdle h.rxBuf h.latch
  · exact .toIdle (s := postInvalid s) h.rxBuf h.latch.postInvalid
  · exact .toIdle (s := postInvalid s) h.rxBuf h.latch.postInvalid

theorem idleByte_rxInv (h : RxInv s) : RxInv (idleByte v s) := by
  unfold idleByte
  split
  · exact ⟨h.rxBuf, ⟨h.latch.frLen, h.latch.frDest, h.latch.detectors⟩, .of_outside (.inr rfl)⟩
  · exact h

theorem preambleByte_rxInv (h : RxInv s) : RxInv (preambleByte v s) := by
  unfold preambleByte
  split
  · exact ⟨h.rxBuf, ⟨h.latch.frLen, h.latch.frDest, h.latch.detectors⟩, ⟨nofun, fun _ => Nat.zero_le 5, nofun, nofun⟩⟩
  split
  · exact h
  · exact .toIdle h.rxBuf h.latch

/-- HeaderCrc's branches leave Header, and enter Data for a length within the buffer and an address here only. -/
theorem headerCrcPhase_rxInv (hb : s.rxBuf.wf = true) (hl : LatchInv s) : RxInv (headerCrcPhase s) := by
  unfold headerCrcPhase
  split
  · exact .toIdle (s := postInvalid s) hb hl.postInvalid
  split
  · exact .toIdle hb hl
  next hd =>
    have hd' : s.rxDest = s.cfg.ts ∨ s.rxDest = broadcast := by tauto
    split
    · exact .toIdle (s := postInvalid s) hb hl.postInvalid
    next hlen =>
      have hlen' : s.rxLen.toNat ≤ nMaxData := Nat.not_lt.1 hlen
      split
      · exact .toIdle (s := postValid s) hb (.postValid hlen' hd')
      next h0 =>
        exact ⟨hb, ⟨hl.frLen, hl.frDest, hl.detectors⟩,
          ⟨fun _ => hlen', nofun, fun _ => ⟨by simp, h0⟩, fun _ => hd'⟩⟩

/-- A header octet advances the index, at six to HeaderCrc, and writes nothing the latch's part reads. -/
theorem headerByte_rxInv (hr : s.rxState = .header) (h : RxInv s) : RxInv (headerByte v s) := by
  obtain ⟨hb, ⟨hlen, hdest, hdet⟩, hframe⟩ := h
  have hi5 := hframe.headerIndex hr
  by_cases hi : s.rxIndex.toNat < 5
  · have hinc : (s.rxIndex + 1).toNat ≤ 5 := by bv_omega
    rw [headerByte_of_lt hi]
    refine ⟨by simpa using hb, ⟨by simpa using hlen, by simpa using hdest, by simpa using hdet⟩,
      ⟨?_, fun _ => hinc, ?_, ?_⟩⟩ <;> simp [hr]
  · have hsix : s.rxIndex = 5 := by bv_omega
    rw [headerByte_sixth hsix]
    exact headerCrcPhase_rxInv (s := { s with rxHcrc := hUpdate v s.rxHcrc, rxIndex := 6 }) hb ⟨hlen, hdest, hdet⟩

theorem dataCrcPhase_rxInv (hb : s.rxBuf.wf = true) (hl : LatchInv s) (hlen : s.rxLen.toNat ≤ nMaxData)
    (hd : s.rxDest = s.cfg.ts ∨ s.rxDest = broadcast) : RxInv (dataCrcPhase s) := by
  unfold dataCrcPhase
  split
  · exact .toIdle (s := postValid s) hb (.postValid hlen hd)
  · exact .toIdle (s := postInvalid s) hb hl.postInvalid

/-- A data octet advances the index, past the length to DataCrc. -/
theorem dataCount_rxInv (hr : s.rxState = .data) (h : RxInv s) : RxInv (dataCount v s) := by
  obtain ⟨hb, ⟨hlen, hdest, hdet⟩, hframe⟩ := h
  have hl := hframe.rxLen hr
  obtain ⟨hi, h0⟩ := hframe.dataIndex hr
  have hd := hframe.dataDest hr
  by_cases hle : s.rxIndex.toNat ≤ s.rxLen.toNat
  · have hinc : (s.rxIndex + 1).toNat = s.rxIndex.toNat + 1 := by unfold nMaxData at hl; bv_omega
    rw [dataCount_before_last hl hle]
    exact ⟨hb, ⟨hlen, hdest, hdet⟩, ⟨fun _ => hl, fun hh => absurd (hr.symm.trans hh) nofun,
      fun _ => ⟨by simp only [hinc]; omega, h0⟩, fun _ => hd⟩⟩
  · rw [dataCount_last hl (by omega)]
    exact dataCrcPhase_rxInv (s := { s with rxDcrc := dUpdate v s.rxDcrc, rxIndex := s.rxIndex + 1 }) hb
      ⟨hlen, hdest, hdet⟩ hl hd

theorem dataByte_rxInv (hr : s.rxState = .data) (h : RxInv s) (hx : dataByte v s = .next t) : RxInv t := by
  obtain ⟨-, hi, rfl⟩ | ⟨-, rfl⟩ := dataByte_next hx
  · exact dataCount_rxInv hr ⟨Memory.write_wf hi h.rxBuf, ⟨h.latch.frLen, h.latch.frDest, h.latch.detectors⟩,
      ⟨h.frame.rxLen, h.frame.headerIndex, h.frame.dataIndex, h.frame.dataDest⟩⟩
  · exact dataCount_rxInv hr h

theorem receiveByte_rxInv (h : RxInv s) (hx : receiveByte v s = .next t) : RxInv t := by
  cases hr : s.rxState with
  | idle => rw [receiveByte_idle hr] at hx; cases hx; exact idleByte_rxInv h
  | preamble => rw [receiveByte_preamble hr] at hx; cases hx; exact preambleByte_rxInv h
  | header => rw [receiveByte_header hr] at hx; cases hx; exact headerByte_rxInv hr h
  | data => rw [receiveByte_data hr] at hx; exact dataByte_rxInv hr h hx

end

/-! ## The token machine keeps its part -/

/-- The states of which `TokenStateInv` asks nothing of its own. -/
def TkState.unconditioned : TkState → Bool
  | .initial | .idle | .doneWithToken | .passToken | .noToken | .pollForMaster => true
  | .useToken | .waitForReply | .answerDataRequest | .unused _ => false

section
variable {s t : State} {ty : Octet}

theorem TokenStateInv.of_unconditioned (hk : s.tkState.unconditioned = true) (hr : s.rplValid = false) :
    TokenStateInv s := by
  cases hs : s.tkState <;> simp [hs, TkState.unconditioned] at hk <;> constructor <;> simp [hs, hr, TkState.named]

/-- Outside AnswerDataRequest the reply slot is empty. -/
theorem TokenStateInv.rplValid_eq_false (h : TokenStateInv s) (hk : s.tkState ≠ .answerDataRequest) :
    s.rplValid = false :=
  eq_false_of_ne_true fun hr => hk (h.rplPending hr).1

/-- A legal configuration, field by field (00_scope.md R5, R6). -/
theorem configLegal_iff {c : Config} :
    configLegal c = true ↔ 1 ≤ c.nMaxInfoFrames ∧ c.nMinOctets ≤ 254 ∧ c.ts ≤ c.nMaxMaster ∧ c.nMaxMaster ≤ 254 ∧
      slotThreshold c ≤ 0xFFFF ∧ c.tFrameAbort ≤ 0xFFFE := by
  simp [configLegal, and_assoc]

/-- `frame_count` cleared leaves a frame to send: `N_MAX_INFO_FRAMES` is at least 1 (00_scope.md R5). -/
theorem zero_lt_nMaxInfoFrames {c : Config} (h : configLegal c = true) : 0 < c.nMaxInfoFrames := by
  obtain ⟨h1, -⟩ := configLegal_iff.1 h
  bv_omega

theorem ts_le_nMaxMaster {c : Config} (h : configLegal c = true) : c.ts ≤ c.nMaxMaster := by
  obtain ⟨-, -, hts, -⟩ := configLegal_iff.1 h
  exact hts

/-- UseToken entered with frames left to send. -/
theorem TokenStateInv.of_useToken (hk : s.tkState = .useToken) (hf : s.frameCount < s.cfg.nMaxInfoFrames)
    (hr : s.rplValid = false) : TokenStateInv s := by
  constructor <;> simp [hk, hr, hf, TkState.named]

/-- A request taken opens the delay window with the reply slot empty (42_token_fsm.md R137). -/
theorem TokenStateInv.of_answer (hk : s.tkState = .answerDataRequest) (hq : s.reqType = 3 ∨ s.reqType = 5)
    (hr : s.rplValid = false) : TokenStateInv s := by
  exact ⟨by simp [hk, TkState.named], by simp [hk], by simp [hk], fun _ => hq, by simp [hr]⟩

/-- What writes neither the token machine's registers nor the reply slot's keeps the token machine's part. -/
theorem TokenInv.of_kept (h : TokenInv s) (k : TokenRegsKept s t) (hv : t.rplValid = s.rplValid)
    (ht : t.rplType = s.rplType) : TokenInv t := by
  obtain ⟨⟨h1, h2, h3, h4, h5⟩, ⟨h6, h7, h8, h9, h10⟩⟩ := h
  constructor <;> constructor <;>
    simpa only [k.cfg, k.tkState, k.ns, k.ps, k.soleMaster, k.frameCount, k.retryCount, k.reqType, k.waitType, hv, ht]

theorem TokenInv.rvf_cleared (h : TokenInv s) : TokenInv { s with rvf := false } :=
  h.of_kept (by constructor <;> rfl) rfl rfl

theorem indicate_tokenInv (h : TokenInv s) (hx : indicate ty s = .next t) : TokenInv t := by
  have k := indicate_keepsTokenRegs hx
  obtain ⟨-, rfl⟩ := indicate_next hx
  exact h.of_kept k rfl rfl

theorem send_tokenInv (h : TokenInv s) (ty d : Octet) (data : List Octet) : TokenInv (send ty d data s) :=
  h.of_kept (by constructor <;> rfl) rfl rfl

theorem idleBroadcast_tokenInv (h : TokenInv s) (hx : idleBroadcast ty s = .next t) : TokenInv t := by
  unfold idleBroadcast at hx
  split at hx
  · exact indicate_tokenInv h hx
  · cases hx; exact h

theorem idleDirected_tokenInv (hs : s.tkState = .idle) (h : TokenInv s) (hx : idleDirected ty s = .next t) :
    TokenInv t := by
  have hr : s.rplValid = false := h.state.rplValid_eq_false (by simp [hs])
  by_cases ha : AnsweredInIdle ty
  · obtain rfl | rfl | rfl | rfl := ha
    · cases hx
      exact ⟨{ h.regs with frameCount := Nat.zero_le _, soleMaster := nofun },
        .of_useToken rfl (zero_lt_nMaxInfoFrames h.regs.cfg) hr⟩
    · cases hx; exact send_tokenInv h 2 s.frSrc []
    · cases hx; exact ⟨{ h.regs with }, .of_answer rfl (.inl rfl) hr⟩
    · rw [idleDirected_dataRequest] at hx
      refine indicate_tokenInv ?_ hx
      exact ⟨{ h.regs with }, .of_answer rfl (.inr rfl) hr⟩
  · exact idleBroadcast_tokenInv h (idleDirected_other ha ▸ hx)

theorem idleFrame_tokenInv (hs : s.tkState = .idle) (h : TokenInv s) (hx : idleFrame ty s = .next t) :
    TokenInv t := by
  unfold idleFrame at hx
  split at hx
  · exact idleDirected_tokenInv (s := { s with rvf := false }) hs h.rvf_cleared hx
  split at hx
  · exact idleBroadcast_tokenInv h.rvf_cleared hx
  · cases hx; exact h.rvf_cleared

theorem idleStep_tokenInv (hs : s.tkState = .idle) (h : TokenInv s) (hx : idleStep s = .next t) : TokenInv t := by
  have hr : s.rplValid = false := h.state.rplValid_eq_false (by simp [hs])
  unfold idleStep at hx
  split at hx
  · cases hx; exact ⟨{ h.regs with }, .of_unconditioned rfl hr⟩
  split at hx
  · cases hx; exact h.of_kept (by constructor <;> rfl) rfl rfl
  split at hx
  · exact idleFrame_tokenInv hs h hx
  · cases hx; exact h

/-- A frame sent is one of those `N_MAX_INFO_FRAMES` allows (42_token_fsm.md R143). -/
theorem useTokenStep_tokenInv (hs : s.tkState = .useToken) (h : TokenInv s) (hx : useTokenStep s = .next t) :
    TokenInv t := by
  have hr : s.rplValid = false := h.state.rplValid_eq_false (by simp [hs])
  have hf : s.frameCount + 1 ≤ s.cfg.nMaxInfoFrames := by have := h.state.useToken hs; bv_omega
  unfold useTokenStep at hx
  split at hx
  · cases hx; exact ⟨{ h.regs with frameCount := Nat.le_refl _ }, .of_unconditioned rfl hr⟩
  · obtain ⟨-, hx⟩ := withOctets_next hx
    split at hx
    next ht =>
      cases hx
      exact ⟨{ h.regs with frameCount := hf },
        ⟨rfl, nofun, fun _ => expectsReply_iff.1 ht, nofun, fun hv => absurd (hr.symm.trans hv) nofun⟩⟩
    next => cases hx; exact ⟨{ h.regs with frameCount := hf }, .of_unconditioned rfl hr⟩

section
variable (hs : s.tkState = .waitForReply) (h : TokenInv s)
include hs h

theorem waitFrame_tokenInv (hx : waitFrame ty s = .next t) : TokenInv t := by
  have hr : s.rplValid = false := h.state.rplValid_eq_false (by simp [hs])
  unfold waitFrame at hx
  split at hx
  · refine indicate_tokenInv ?_ hx
    exact ⟨{ h.regs with }, .of_unconditioned rfl hr⟩
  split at hx
  · cases hx; exact ⟨{ h.regs with }, .of_unconditioned rfl hr⟩
  · cases hx; exact ⟨{ h.regs with }, .of_unconditioned rfl hr⟩

theorem waitStep_tokenInv (hx : waitStep s = .next t) : TokenInv t := by
  have hr : s.rplValid = false := h.state.rplValid_eq_false (by simp [hs])
  unfold waitStep at hx
  split at hx
  · cases hx; exact ⟨{ h.regs with frameCount := Nat.le_refl _ }, .of_unconditioned rfl hr⟩
  split at hx
  · cases hx; exact ⟨{ h.regs with }, .of_unconditioned rfl hr⟩
  split at hx
  · exact waitFrame_tokenInv hs h hx
  · cases hx; exact h

end

/-- The six branches of R157: UseToken with frames left, PassToken or PollForMaster. -/
theorem doneStep_tokenInv (hs : s.tkState = .doneWithToken) (h : TokenInv s) : TokenInv (doneStep s) := by
  have hr : s.rplValid = false := h.state.rplValid_eq_false (by simp [hs])
  unfold doneStep
  split
  next hf => exact ⟨{ h.regs with }, .of_useToken rfl hf hr⟩
  split
  · exact ⟨{ h.regs with frameCount := Nat.zero_le _ }, .of_useToken rfl (zero_lt_nMaxInfoFrames h.regs.cfg) hr⟩
  split
  · exact ⟨{ h.regs with retryCount := Nat.zero_le _ }, .of_unconditioned rfl hr⟩
  split
  · exact ⟨{ h.regs with retryCount := Nat.zero_le _, ps := nextStation_le _ _ }, .of_unconditioned rfl hr⟩
  split
  · exact ⟨{ h.regs with retryCount := Nat.zero_le _, ps := ts_le_nMaxMaster h.regs.cfg }, .of_unconditioned rfl hr⟩
  · exact ⟨{ h.regs with retryCount := Nat.zero_le _, ps := nextStation_le _ _, soleMaster := fun _ => rfl },
      .of_unconditioned rfl hr⟩

theorem passStep_tokenInv (hs : s.tkState = .passToken) (h : TokenInv s) : TokenInv (passStep s) := by
  have hr : s.rplValid = false := h.state.rplValid_eq_false (by simp [hs])
  unfold passStep
  split
  · exact ⟨{ h.regs with }, .of_unconditioned rfl hr⟩
  split
  · split
    next hlt =>
      have hinc : s.retryCount + 1 ≤ s.cfg.nRetryToken := by bv_omega
      exact ⟨{ h.regs with retryCount := hinc }, .of_unconditioned (by simp [hs, TkState.unconditioned]) hr⟩
    next =>
      exact ⟨{ h.regs with retryCount := Nat.zero_le _, ps := nextStation_le _ _, soleMaster := fun _ => rfl },
        .of_unconditioned rfl hr⟩
  · exact h

theorem noTokenStep_tokenInv (hs : s.tkState = .noToken) (h : TokenInv s) : TokenInv (noTokenStep s) := by
  have hr : s.rplValid = false := h.state.rplValid_eq_false (by simp [hs])
  unfold noTokenStep
  split
  · exact ⟨{ h.regs with }, .of_unconditioned rfl hr⟩
  split
  · exact ⟨{ h.regs with retryCount := Nat.zero_le _, ps := nextStation_le _ _, soleMaster := fun _ => rfl },
      .of_unconditioned rfl hr⟩
  · exact h

section
variable (hs : s.tkState = .pollForMaster) (h : TokenInv s)
include hs h

theorem pollFrame_tokenInv (hx : pollFrame ty s = .next t) : TokenInv t := by
  have hr : s.rplValid = false := h.state.rplValid_eq_false (by simp [hs])
  unfold pollFrame at hx
  split at hx
  · cases hx
    exact ⟨{ h.regs with retryCount := Nat.zero_le _, ps := ts_le_nMaxMaster h.regs.cfg, soleMaster := nofun },
      .of_unconditioned rfl hr⟩
  · cases hx; exact ⟨{ h.regs with }, .of_unconditioned rfl hr⟩

/-- `sole_master` is set in the last branch only, where `NS` is `TS` (42_token_fsm.md R170). -/
theorem pollUnanswered_tokenInv : TokenInv (pollUnanswered s) := by
  have hr : s.rplValid = false := h.state.rplValid_eq_false (by simp [hs])
  have h0 := zero_lt_nMaxInfoFrames h.regs.cfg
  unfold pollUnanswered
  split
  · exact h
  split
  · exact ⟨{ h.regs with frameCount := Nat.zero_le _ }, .of_useToken rfl h0 hr⟩
  split
  · exact ⟨{ h.regs with retryCount := Nat.zero_le _ }, .of_unconditioned rfl hr⟩
  next hns =>
    split
    · exact ⟨{ h.regs with retryCount := Nat.zero_le _, ps := nextStation_le _ _ },
        .of_unconditioned (by simp [hs, TkState.unconditioned]) hr⟩
    · exact ⟨{ h.regs with frameCount := Nat.zero_le _, soleMaster := fun _ => not_not.1 hns }, .of_useToken rfl h0 hr⟩

theorem pollStep_tokenInv (hx : pollStep s = .next t) : TokenInv t := by
  unfold pollStep at hx
  split at hx
  · exact pollFrame_tokenInv hs h hx
  · cases hx; exact pollUnanswered_tokenInv hs h

end

/-- AnswerDataRequest is left with the reply slot empty: a Test-Request never fills it (42_token_fsm.md R176 (h)). -/
theorem answerStep_tokenInv (h : TokenInv s) (hx : answerStep s = .next t) : TokenInv t := by
  unfold answerStep at hx
  split at hx
  next hq =>
    obtain ⟨-, hx⟩ := withOctets_next hx
    have hr : s.rplValid = false := eq_false_of_ne_true fun hv => by
      have h5 := (h.state.rplPending hv).2.1
      rw [hq.1] at h5
      exact absurd h5 (by decide)
    cases hx
    exact ⟨{ h.regs with }, .of_unconditioned rfl hr⟩
  split at hx
  · obtain ⟨-, hx⟩ := withOctets_next hx; cases hx; exact ⟨{ h.regs with }, .of_unconditioned rfl rfl⟩
  split at hx
  · cases hx; exact ⟨{ h.regs with }, .of_unconditioned rfl rfl⟩
  · cases hx; exact h

theorem initializeStep_tokenInv (hs : s.tkState = .initial) (h : TokenInv s) : TokenInv (initializeStep s) :=
  ⟨{ h.regs with ps := ts_le_nMaxMaster h.regs.cfg, soleMaster := nofun },
    .of_unconditioned rfl (h.state.rplValid_eq_false (by simp [hs]))⟩

theorem execMasterStep_tokenInv (h : TokenInv s) (hx : execMasterStep s = .next t) : TokenInv t := by
  unfold execMasterStep at hx
  cases hs : s.tkState <;> simp only [hs] at hx
  case initial => cases hx; exact initializeStep_tokenInv hs h
  case idle => exact idleStep_tokenInv hs h hx
  case useToken => exact useTokenStep_tokenInv hs h hx
  case waitForReply => exact waitStep_tokenInv hs h hx
  case doneWithToken => cases hx; exact doneStep_tokenInv hs h
  case passToken => cases hx; exact passStep_tokenInv hs h
  case noToken => cases hx; exact noTokenStep_tokenInv hs h
  case pollForMaster => exact pollStep_tokenInv hs h hx
  case answerDataRequest => exact answerStep_tokenInv h hx
  case unused => cases hx; exact h

theorem takeFrame_tokenInv (h : TokenInv s) (hx : takeFrame ty s = .next t) : TokenInv t := by
  obtain rfl | ⟨hf, ha⟩ := takeFrame_next hx
  · exact h
  obtain ⟨hs, -⟩ | ⟨hs, -⟩ | ⟨hs, -⟩ := (takesFrame_iff s).1 hf
  · exact idleFrame_tokenInv hs h (frameAction_idle hs ▸ ha)
  · exact waitFrame_tokenInv hs h (frameAction_waitForReply hs ▸ ha)
  · exact pollFrame_tokenInv hs h (frameAction_pollForMaster hs ▸ ha)

end

/-! ## Reset -/

theorem resetWith_inv {cfg : Config} (hc : configLegal cfg = true) : Inv (State.resetWith cfg) := by
  have hrx : RxInv (State.resetWith cfg) := ⟨rfl, ⟨Nat.zero_le _, nofun, nofun⟩, .of_outside (.inl rfl)⟩
  have hslot : SlotInv (State.resetWith cfg) := ⟨rfl, rfl, Nat.zero_le _, Nat.zero_le _, nofun⟩
  have htoken : TokenInv (State.resetWith cfg) :=
    ⟨⟨hc, Nat.zero_le _, Nat.zero_le _, Nat.zero_le _, nofun⟩, .of_unconditioned rfl rfl⟩
  exact (inv_iff _).2 ⟨hrx, hslot, htoken⟩

/-- Settles O58: at reset every counter is zero, nothing is pending, and the default configuration is a legal one. -/
theorem invariantHoldsAtReset : Obligations.InvariantHoldsAtReset :=
  ⟨resetWith_inv (by decide), fun _ hc => resetWith_inv hc⟩

/-! ## Every instruction keeps the three parts -/

section
variable {s t : State} {i : Instr}

/-- What writes neither the receiver's registers nor the latch and the detectors keeps the receiver's part. -/
theorem RxInv.of_kept (h : RxInv s) (k : FrameRegsKept s t) (hc : t.cfg = s.cfg) (hr : t.rxState = s.rxState)
    (hv : t.rvf = s.rvf) (hi : t.rif = s.rif) : RxInv t := by
  obtain ⟨hb, ⟨h1, h2, h3⟩, ⟨h4, h5, h6, h7⟩⟩ := h
  refine ⟨k.rxBuf ▸ hb, ⟨?_, ?_, ?_⟩, ⟨?_, ?_, ?_, ?_⟩⟩ <;>
    simpa only [k.frLen, k.frDest, k.rxLen, k.rxIndex, k.rxDest, hc, hr, hv, hi]

/-- The token machine raises no detector and writes nothing else that the receiver's part reads. -/
theorem TokenWritesOnly.rxInv (k : TokenWritesOnly s t) (h : RxInv s) : RxInv t := by
  have hlatch : LatchInv t :=
    ⟨k.kept (·.frLen) ▸ h.latch.frLen,
      fun hv => by rw [k.kept (·.frDest), k.kept (·.cfg)]; exact h.latch.frDest (k.rvf hv),
      fun ⟨hv, hi⟩ => h.latch.detectors ⟨k.rvf hv, k.rif hi⟩⟩
  refine ⟨k.kept (·.rxBuf) ▸ h.rxBuf, hlatch, ?_⟩
  rw [k.others]
  exact { h.frame with }

theorem execTxQueue_rxInv {d : Descriptor} (h : RxInv s) (hx : execTxQueue d s = .next t) : RxInv t := by
  unfold execTxQueue at hx
  split at hx
  · cases hx; exact h.of_kept (by constructor <;> rfl) rfl rfl rfl rfl
  · cases hx; exact h.of_kept (by constructor <;> rfl) rfl rfl rfl rfl

theorem execReply_rxInv {d : Descriptor} (h : RxInv s) (hx : execReply d s = .next t) : RxInv t := by
  unfold execReply at hx
  split at hx
  · cases hx; exact h.of_kept (by constructor <;> rfl) rfl rfl rfl rfl
  · cases hx; exact h.of_kept (by constructor <;> rfl) rfl rfl rfl rfl

theorem exec_rxInv (h : RxInv s) (hx : exec i s = .next t) : RxInv t := by
  cases i with
  | rxNone => cases hx; exact timeoutPhase_rxInv h
  | rxByte v => exact receiveByte_rxInv (activityPhase_rxInv (timeoutPhase_rxInv h)) hx
  | rxError => cases hx; exact receiveError_rxInv (activityPhase_rxInv (timeoutPhase_rxInv h))
  | tick | reservedOp7 | reservedOp8F | malformed =>
    cases hx; exact h.of_kept (by constructor <;> rfl) rfl rfl rfl rfl
  | txQueue d => exact execTxQueue_rxInv h hx
  | reply d => exact execReply_rxInv h hx
  | masterStep => exact (execMasterStep_writesOnly hx).rxInv h
  | ftToken | ftPfm | ftRpfm | ftTreq | ftTrsp | ftDer | ftDner | ftRp
  | ftReserved08 | ftReserved10 | ftReserved20 | ftReserved40 | ftProprietary => exact (takeFrame_writesOnly hx).rxInv h

/-- What leaves the host's registers alone keeps the slots' part. -/
theorem SlotInv.of_kept (h : SlotInv s) (k : HostRegsKept s t) : SlotInv t := by
  obtain ⟨h1, h2, h3, h4, h5⟩ := h
  constructor <;> simpa only [k.txqData, k.rplData, k.txqLen, k.rplLen, k.txqValid, k.txqType, k.txqDest]

/-- The token machine only empties the slots. -/
theorem TokenWritesOnly.slotInv (k : TokenWritesOnly s t) (h : SlotInv s) : SlotInv t := by
  refine ⟨k.kept (·.txqData) ▸ h.txqData, k.kept (·.rplData) ▸ h.rplData, k.kept (·.txqLen) ▸ h.txqLen,
    k.kept (·.rplLen) ▸ h.rplLen, fun hv => ?_⟩
  rw [k.kept (·.txqType), k.kept (·.txqDest)]
  exact h.txqPending (k.txqValid hv)

theorem descriptor_write_wf {m : Memory} {d : Descriptor} (hm : m.wf = true) (hd : d.wf = true)
    (hl : d.dLen.toNat ≤ nMaxData) : (m.writeAll 0 d.dData).wf = true := by
  have hlen : d.dData.length = d.dLen.toNat := beq_iff_eq.1 hd
  exact Memory.writeAll_wf (by omega) hm

/-- What TX_QUEUE accepts may be sent (44_host_ops.md R199). -/
theorem execTxQueue_slotInv {d : Descriptor} (hd : d.wf = true) (h : SlotInv s) (hx : execTxQueue d s = .next t) :
    SlotInv t := by
  unfold execTxQueue at hx
  split at hx
  next hacc =>
    cases hx
    simp only [txAcceptable, Bool.and_eq_true, decide_eq_true_eq] at hacc
    obtain ⟨⟨⟨-, hq⟩, hl⟩, hb⟩ := hacc
    have hto : ¬(expectsReply d.dType = true ∧ d.dDest = broadcast) := fun ⟨he, hall⟩ => by simp [he, hall] at hb
    exact { h with
      txqData := descriptor_write_wf h.txqData hd hl, txqLen := hl, txqPending := fun _ => ⟨hq, hto⟩ }
  next => cases hx; exact { h with }

theorem execReply_slotInv {d : Descriptor} (hd : d.wf = true) (h : SlotInv s) (hx : execReply d s = .next t) :
    SlotInv t := by
  unfold execReply at hx
  split at hx
  next hacc =>
    cases hx
    obtain ⟨-, -, -, -, hl⟩ := rplAcceptable_iff.1 hacc
    exact { h with rplData := descriptor_write_wf h.rplData hd hl, rplLen := hl }
  next => cases hx; exact { h with }

theorem exec_slotInv (hi : i.wf = true) (h : SlotInv s) (hx : exec i s = .next t) : SlotInv t := by
  cases i with
  | rxNone => exact h.of_kept (execRxNone_keepsHostRegs hx)
  | rxByte v => exact h.of_kept (execRxByte_keepsHostRegs hx)
  | rxError => exact h.of_kept (execRxError_keepsHostRegs hx)
  | tick | reservedOp7 | reservedOp8F | malformed => cases hx; exact { h with }
  | txQueue d => exact execTxQueue_slotInv (by simpa [Instr.wf, Instr.problem] using hi) h hx
  | reply d => exact execReply_slotInv (by simpa [Instr.wf, Instr.problem] using hi) h hx
  | masterStep => exact (execMasterStep_writesOnly hx).slotInv h
  | ftToken | ftPfm | ftRpfm | ftTreq | ftTrsp | ftDer | ftDner | ftRp
  | ftReserved08 | ftReserved10 | ftReserved20 | ftReserved40 | ftProprietary =>
    exact (takeFrame_writesOnly hx).slotInv h

theorem execTxQueue_tokenInv {d : Descriptor} (h : TokenInv s) (hx : execTxQueue d s = .next t) : TokenInv t := by
  have k := execTxQueue_keepsTokenRegs hx
  unfold execTxQueue at hx
  split at hx
  · cases hx; exact h.of_kept k rfl rfl
  · cases hx; exact h.of_kept k rfl rfl

/-- A reply is accepted only where one is wanted (44_host_ops.md R201). -/
theorem execReply_tokenInv {d : Descriptor} (h : TokenInv s) (hx : execReply d s = .next t) : TokenInv t := by
  unfold execReply at hx
  split at hx
  next hacc =>
    cases hx
    simp only [rplAcceptable, Bool.and_eq_true, beq_iff_eq] at hacc
    obtain ⟨⟨⟨⟨hk, hq⟩, -⟩, ht⟩, -⟩ := hacc
    exact ⟨{ h.regs with }, { h.state with rplPending := fun _ => ⟨hk, hq, ht⟩ }⟩
  next => cases hx; exact h.of_kept (ignoreCommand_keepsTokenRegs s) rfl rfl

theorem exec_tokenInv (h : TokenInv s) (hx : exec i s = .next t) : TokenInv t := by
  cases i with
  | rxNone =>
    have k := execRxNone_keepsHostRegs hx
    exact h.of_kept (execRxNone_keepsTokenRegs hx) k.rplValid k.rplType
  | rxByte v =>
    have k := execRxByte_keepsHostRegs hx
    exact h.of_kept (execRxByte_keepsTokenRegs hx) k.rplValid k.rplType
  | rxError =>
    have k := execRxError_keepsHostRegs hx
    exact h.of_kept (execRxError_keepsTokenRegs hx) k.rplValid k.rplType
  | tick | reservedOp7 | reservedOp8F | malformed => cases hx; exact h.of_kept (by constructor <;> rfl) rfl rfl
  | txQueue d => exact execTxQueue_tokenInv h hx
  | reply d => exact execReply_tokenInv h hx
  | masterStep => exact execMasterStep_tokenInv h hx
  | ftToken | ftPfm | ftRpfm | ftTreq | ftTrsp | ftDer | ftDner | ftRp
  | ftReserved08 | ftReserved10 | ftReserved20 | ftReserved40 | ftProprietary => exact takeFrame_tokenInv h hx

/-- Every well-formed instruction keeps the invariant. -/
theorem exec_inv (hi : i.wf = true) (h : Inv s) (hx : exec i s = .next t) : Inv t := by
  obtain ⟨hrx, hslot, htoken⟩ := (inv_iff s).1 h
  exact (inv_iff t).2 ⟨exec_rxInv hrx hx, exec_slotInv hi hslot hx, exec_tokenInv htoken hx⟩

end

/-! ## The step -/

section
variable {s t : State} {c : Command} {i : Instr}

/-- The model's own two streams are no part of the invariant. -/
theorem Inv.of_streams (h : Inv s) (ins : List Input) (evs : List Event) :
    Inv { s with inputs := ins, events := evs } :=
  { h with bounds := { h.bounds with } }

theorem decodeFrameType_wf (ty : Octet) : (decodeFrameType ty).wf = true := by
  unfold decodeFrameType
  (repeat' split) <;> rfl

/-- The decoder gives well-formed instructions only. -/
theorem decode_wf {code : Code} (h : decode code = .ok i) : i.wf = true := by
  cases code with
  | command c =>
    simp only [decode] at h
    split at h
    next hp => cases h; exact beq_iff_eq.2 hp
    next => cases h
  | frameType ty => cases h; exact decodeFrameType_wf ty

/-- A command runs the instruction that its code decodes to. -/
theorem runCommand_of_decode (hc : configLegal s.cfg = true) (hd : decode (fetchCode c s) = .ok i) :
    runCommand c s = exec i s := by
  rw [runCommand, if_pos hc, hd]

/-- All that a command can do when it answers a next state. -/
theorem runCommand_next (h : runCommand c s = .next t) :
    ∃ i, decode (fetchCode c s) = .ok i ∧ exec i s = .next t := by
  unfold runCommand at h
  split at h
  · split at h
    next i hd => exact ⟨i, hd, h⟩
    next => cases h
  · cases h

theorem runCommand_inv (h : Inv s) (hx : runCommand c s = .next t) : Inv t := by
  obtain ⟨i, hd, hx⟩ := runCommand_next hx
  exact exec_inv (decode_wf hd) h hx

/-- MASTER_STEP reads no descriptor. -/
theorem decode_masterStep (d : Descriptor) : decode (.command ⟨0x4000#16, d⟩) = .ok .masterStep := by
  have hw : decodeWord 0x4000#16 d = .masterStep := rfl
  simp only [decode, hw, Instr.problem]

/-- Where the code is the taken frame's type octet, the word was a MASTER_STEP's, and the frame's instruction does what
that MASTER_STEP does (log entry 6). -/
theorem runCommand_of_decode_command (hc : configLegal s.cfg = true) (hd : decode (.command c) = .ok i) :
    runCommand c s = exec i s := by
  by_cases hf : c.word = 0x4000#16 ∧ takesFrame s = true
  · obtain ⟨w, d⟩ := c
    obtain ⟨rfl, ht⟩ := hf
    cases (decode_masterStep d).symm.trans hd
    rw [runCommand_of_decode hc (i := frameInstr s.frType) (by rw [fetchCode, if_pos ⟨rfl, ht⟩]; rfl), exec_frameInstr,
      takeFrame_of_takes ht, exec_masterStep_of_takesFrame ht]
  · exact runCommand_of_decode hc (by rw [fetchCode, if_neg hf]; exact hd)

end

/-- Settles O59: a command runs a well-formed instruction, each of which keeps each part of the invariant, and a reset
leaves the reset state. -/
theorem invariantKeptByEveryStep : Obligations.InvariantKeptByEveryStep := by
  intro s t h hx
  cases hin : s.inputs with
  | nil => rw [step_of_no_input hin] at hx; cases hx; exact h
  | cons x rest =>
    cases x with
    | command c =>
      rw [step_of_input hin] at hx
      exact runCommand_inv (h.of_streams rest s.events) hx
    | reset cfg =>
      obtain ⟨hc, rfl⟩ := step_next_of_reset hin hx
      exact (resetWith_inv hc).of_streams rest s.events

/-- Settles O56: a command's own decoding and that of the frame it takes have the same effect. -/
theorem stepRunsDecodedInstruction : Obligations.StepRunsDecodedInstruction := by
  refine ⟨fun s c rest i hin hc hd => ?_, fun s c rest i hin hc hd => ?_, fun s hin => step_of_no_input hin⟩
  · rw [step_of_input hin]
    exact runCommand_of_decode (s := { s with inputs := rest }) hc hd
  · rw [step_of_input hin]
    exact runCommand_of_decode_command (s := { s with inputs := rest }) hc hd

/-! ## Completion (60_exceptions.md R218) -/

section
variable {s : State}

theorem BlindToFrType.completes {f : State → Host.Outcome State Fault Refusal} (hf : BlindToFrType f)
    (hl : s.frLen.toNat ≤ nMaxData) : ∃ t, f s = .next t := by
  obtain ⟨u, -, hu⟩ := hf s s.frType hl
  exact ⟨_, hu⟩

theorem takeFrame_completes (hl : s.frLen.toNat ≤ nMaxData) (ty : Octet) : ∃ t, takeFrame ty s = .next t := by
  cases hf : takesFrame s with
  | true =>
    obtain ⟨u, -, hu⟩ := frameAction_next_of_frType (ty := ty) hf hl s.frType
    exact ⟨_, (takeFrame_of_takes hf).trans hu⟩
  | false => exact ⟨s, takeFrame_of_not_takes hf⟩

theorem idleStep_completes (hl : s.frLen.toNat ≤ nMaxData) : ∃ t, idleStep s = .next t := by
  unfold idleStep
  split
  · exact ⟨_, rfl⟩
  split
  · exact ⟨_, rfl⟩
  split
  · exact (idleFrame_blindToFrType s.frType).completes hl
  · exact ⟨_, rfl⟩

theorem useTokenStep_completes (hl : s.txqLen.toNat ≤ nMaxData) : ∃ t, useTokenStep s = .next t := by
  unfold useTokenStep
  split
  · exact ⟨_, rfl⟩
  · rw [withOctets_of_le hl]
    split <;> exact ⟨_, rfl⟩

theorem waitStep_completes (hl : s.frLen.toNat ≤ nMaxData) : ∃ t, waitStep s = .next t := by
  unfold waitStep
  split
  · exact ⟨_, rfl⟩
  split
  · exact ⟨_, rfl⟩
  split
  · exact (waitFrame_blindToFrType s.frType).completes hl
  · exact ⟨_, rfl⟩

theorem pollStep_completes (hl : s.frLen.toNat ≤ nMaxData) : ∃ t, pollStep s = .next t := by
  unfold pollStep
  split
  · exact (pollFrame_blindToFrType s.frType).completes hl
  · exact ⟨_, rfl⟩

theorem answerStep_completes (hb : BufferBounds s) : ∃ t, answerStep s = .next t := by
  unfold answerStep
  split
  · exact ⟨_, withOctets_of_le hb.frLen⟩
  split
  · exact ⟨_, withOctets_of_le hb.rplLen⟩
  split <;> exact ⟨_, rfl⟩

theorem execMasterStep_completes (hb : BufferBounds s) : ∃ t, execMasterStep s = .next t := by
  unfold execMasterStep
  cases hs : s.tkState
  case idle => exact idleStep_completes hb.frLen
  case useToken => exact useTokenStep_completes hb.txqLen
  case waitForReply => exact waitStep_completes hb.frLen
  case pollForMaster => exact pollStep_completes hb.frLen
  case answerDataRequest => exact answerStep_completes hb
  all_goals exact ⟨_, rfl⟩

theorem execTxQueue_completes (d : Descriptor) (s : State) : ∃ t, execTxQueue d s = .next t := by
  unfold execTxQueue
  split <;> exact ⟨_, rfl⟩

theorem execReply_completes (d : Descriptor) (s : State) : ∃ t, execReply d s = .next t := by
  unfold execReply
  split <;> exact ⟨_, rfl⟩

end

/-- Settles O60: only buffer accesses can fault, and the lengths of a good state keep them inside. -/
theorem everyCommandCompletes : Obligations.EveryCommandCompletes := by
  intro i s h
  have hb := h.bounds
  cases i with
  | rxNone | rxError | tick | reservedOp7 | reservedOp8F | malformed => exact ⟨_, rfl⟩
  | rxByte v =>
    obtain ⟨t, ht, -⟩ := (receiveActivity s hb).1 v
    exact ⟨t, ht⟩
  | masterStep => exact execMasterStep_completes hb
  | txQueue d => exact execTxQueue_completes d s
  | reply d => exact execReply_completes d s
  | ftToken | ftPfm | ftRpfm | ftTreq | ftTrsp | ftDer | ftDner | ftRp
  | ftReserved08 | ftReserved10 | ftReserved20 | ftReserved40 | ftProprietary => exact takeFrame_completes hb.frLen _

/-! ## The bus (60_exceptions.md R229, R230) -/

/-- What one node does on the bus is delivered to the others. -/
theorem busApply_delivers {i : Nat} {f : State → Host.Outcome State Fault Refusal} {b b' : Bus} {s : State}
    (hs : b[i]? = some s) (h : busApply i f b = .next b') : Delivers i s (f s) b b' := by
  obtain ⟨s', hx, hlen, hi, hothers⟩ := busApply_next hs h
  exact ⟨hlen, s', hx, hi, hothers⟩

/-- A TICK's command word runs TICK. -/
theorem exec_tick_of_ownTick {s t : State} (h : ownTick s = .next t) :
    exec .tick { s with inputs := s.inputs.tail } = .next t := by
  obtain ⟨i, hd, hx⟩ := runCommand_next h
  rw [fetchCode, if_neg fun hf => absurd hf.1 (by decide)] at hd
  cases hd
  exact hx

section
variable {i : Nat} {b b' : Bus} {s : State} (hs : b[i]? = some s)
include hs

theorem busStep_of_no_tick (ht : nextIsTick s = false) : busStep i b = busApply i step b := by
  simp [busStep, hs, ht]

theorem busStep_of_tick (ht : nextIsTick s = true) :
    busStep i b = if b.all awaitsTick then onEvery ownTick b else .next b := by
  simp [busStep, hs, ht]

theorem busReset_of_legal {cfg : Config} (hc : configLegal cfg = true) :
    busReset i cfg b = .next (b.set i { State.resetWith cfg with inputs := s.inputs, events := s.events }) :=
  busApply_of_silent hs (if_pos hc) rfl

end

/-- Settles O57: a command, a step and a reset are `busApply`, a TICK due at every node is applied to each alone, and a
reset emits nothing. -/
theorem busDeliversToTheOthers : Obligations.BusDeliversToTheOthers := by
  intro b b' i s hs
  refine ⟨fun c h => busApply_delivers hs h, fun ht h => ?_, fun ht hall h => ?_, fun ht hall => ?_,
    fun cfg hc => busReset_of_legal hs hc, fun cfg stream hc => if_pos hc⟩
  · rw [busStep_of_no_tick hs ht] at h
    exact busApply_delivers hs h
  · rw [busStep_of_tick hs ht, if_pos hall] at h
    obtain ⟨hlen, hevery⟩ := onEvery_next h
    refine ⟨hlen, fun j u hu => ?_⟩
    obtain ⟨u', hx, hu'⟩ := hevery j u hu
    exact ⟨u', exec_tick_of_ownTick hx, hu'⟩
  · rw [busStep_of_tick hs ht, if_neg (by simp [hall])]

end Sys2Proof.Machine
end
